-- ==== Sys2Proof/Word.lean ====
section
/-! DEFINITION. The word types of the gs1 CORE, its small fixed sets of names, and the four-operator container. -/

namespace Sys2Proof

/-- A command word, as presented on the command port (rule R111). -/
abbrev Word := BitVec 32

/-- A byte of a serialised command word (rule R87). -/
abbrev Byte := BitVec 8

/-- An element of a delay line, and the register `MIX`: signed 18 bits (rules R32, R33). -/
abbrev Sample := BitVec 18

/-- The routing topologies NORM, PI/2, PI and CROSS (rules R31, R119). All four are legal in either stack. -/
inductive Mode where
  | norm | piHalf | pi | cross
deriving DecidableEq, Repr, Inhabited

/-- The two FM stacks (rule R16). -/
inductive StackId where
  | one | two
deriving DecidableEq, Repr, Inhabited

/-- The four operators of a voice, index 0..3 = C1, C2, M1, M2 (rule R16). -/
inductive OpIdx where
  | c1 | c2 | m1 | m2
deriving DecidableEq, Repr, Inhabited

/-- The three delay lines A, B and C of the chorus (rule R33). -/
inductive Line where
  | a | b | c
deriving DecidableEq, Repr, Inhabited

/-- Four values, one for each operator, in the index order of rule R16. -/
structure Quad (α : Type) where
  c1 : α
  c2 : α
  m1 : α
  m2 : α
deriving DecidableEq, Repr, Inhabited

/-- The value of operator `i`: `F[i]` in the notation of rule R15. -/
def Quad.get {α : Type} (q : Quad α) : OpIdx → α
  | .c1 => q.c1
  | .c2 => q.c2
  | .m1 => q.m1
  | .m2 => q.m2

/-- `for i in 0..3`: the four values a function of the operator index gives. -/
def Quad.ofFn {α : Type} (f : OpIdx → α) : Quad α :=
  ⟨f .c1, f .c2, f .m1, f .m2⟩

/-- The same function applied to each of the four. -/
def Quad.map {α β : Type} (f : α → β) (q : Quad α) : Quad β :=
  ⟨f q.c1, f q.c2, f q.m1, f q.m2⟩

/-- The same value for all four operators. -/
def Quad.all {α : Type} (x : α) : Quad α := ⟨x, x, x, x⟩

end Sys2Proof
end

