-- ==== Sys2Proof/Syntax.lean ====
section
/-! DEFINITION. The commands of the gs1 CORE: one constructor for each row of spec/opcode_table.json (rules R110, R113). -/

namespace Sys2Proof

/-- A command (the hardware's analogue of an instruction, rule R19). Every operand is held at exactly the width
rule R112 gives its field, so an operand the encoding cannot carry (93_implementation_defined.md U11) has no term. -/
inductive Instr where
  /-- INIT, rule R149. -/
  | init
  /-- SELPATCH `idx`, rule R241. -/
  | selpatch (idx : BitVec 8)
  /-- NOTEON `note, vel`, rule R242. -/
  | noteon (note vel : BitVec 7)
  /-- NOTEOFF `note`, rule R251. -/
  | noteoff (note : BitVec 7)
  /-- SUSTAIN `down`, rule R252. -/
  | sustain (down : Bool)
  /-- TICK, rule R260. -/
  | tick
  /-- CHORUS, rule R282. -/
  | chorus
  /-- SETMODE `stack, mode`, rule R253. -/
  | setmode (stack : StackId) (mode : Mode)
deriving DecidableEq, Repr

end Sys2Proof
end

