-- ==== Sys2Proof/WellFormed.lean ====
section
/-! DEFINITION. Well-formedness. A term of `Instr` is well-formed by its types: each operand has the width of its
field. What can be ill-formed is a command as a host WRITES it, with numerals for operands (rules R117, R118); this
file holds that form, the check of each operand (rules R112, R115, R119), and its translation to `Instr`. -/

namespace Sys2Proof

/-- A line of the assembler of rule R117, operands as the numerals written, and the pseudo-commands of rule R118. -/
inductive AsmLine where
  | init
  | selpatch (idx : Nat)
  | noteon (note vel : Nat)
  | noteoff (note : Nat)
  | sustain (down : Nat)
  | tick
  | chorus
  /-- `stack` written 1 or 2, `mode` written 0..3. -/
  | setmode (stack mode : Nat)
  /-- Pseudo-command SUSON. -/
  | suson
  /-- Pseudo-command SUSOFF. -/
  | susoff
  /-- Pseudo-command RENDER. -/
  | render
  /-- Pseudo-command TICKS n. -/
  | ticks (n : Nat)
deriving DecidableEq, Repr

/-- The topology a mode numeral names (rule R119), none above 3. -/
def modeOfNat : Nat → Option Mode
  | 0 => some .norm
  | 1 => some .piHalf
  | 2 => some .pi
  | 3 => some .cross
  | _ => none

/-- The stack a stack numeral names as the assembler writes it, 1 or 2 (rule R117). -/
def stackOfNat : Nat → Option StackId
  | 1 => some .one
  | 2 => some .two
  | _ => none

/-- The check: every operand fits its field (rule R112). -/
def AsmLine.wellFormed : AsmLine → Bool
  | .selpatch idx => decide (idx ≤ 255)
  | .noteon note vel => decide (note ≤ 127) && decide (vel ≤ 127)
  | .noteoff note => decide (note ≤ 127)
  | .sustain down => decide (down ≤ 1)
  | .setmode stack mode => (stackOfNat stack).isSome && (modeOfNat mode).isSome
  | .init | .tick | .chorus | .suson | .susoff | .render | .ticks _ => true

/-- The commands a line stands for (rules R117, R118); none for a line that is not well-formed. -/
def AsmLine.expand (l : AsmLine) : Option (List Instr) :=
  if l.wellFormed then
    match l with
    | .init => some [.init]
    | .selpatch idx => some [.selpatch (BitVec.ofNat 8 idx)]
    | .noteon note vel => some [.noteon (BitVec.ofNat 7 note) (BitVec.ofNat 7 vel)]
    | .noteoff note => some [.noteoff (BitVec.ofNat 7 note)]
    | .sustain down => some [.sustain (down == 1)]
    | .tick => some [.tick]
    | .chorus => some [.chorus]
    | .setmode stack mode =>
      match stackOfNat stack, modeOfNat mode with
      | some st, some m => some [.setmode st m]
      | _, _ => none
    | .suson => some [.sustain true]
    | .susoff => some [.sustain false]
    | .render => some [.tick, .chorus]
    | .ticks n => some (List.replicate n .tick)
  else none

end Sys2Proof
end

