-- ==== Sys2Proof/Decode.lean ====
section
/-! DEFINITION. The command decoder (rules R111 to R114, R116, R119), total on every 32-bit word, and after it the
encoder written from the same tables. -/

namespace Sys2Proof

/-- Why a word is no command (rule R114). The hardware records only `E_ILLEGAL` for all of them. -/
inductive Reject where
  /-- `OPC` is `0x0` or `0x9` to `0xF`. -/
  | opcode
  /-- `RSV` (bits 27:16) is not 0. -/
  | reserved
  /-- A bit that rule R112 says must be 0 is not. -/
  | operandBits
  /-- A serialised command is shorter than four bytes (the host side's form, rule R87). -/
  | short
deriving DecidableEq, Repr

/-- `OPC`, bits 31:28 (rule R111). -/
def opcField (w : Word) : BitVec 4 := w.extractLsb' 28 4

/-- `RSV`, bits 27:16 (rule R111). -/
def rsvField (w : Word) : BitVec 12 := w.extractLsb' 16 12

/-- `A`, bits 15:8 (rule R111). -/
def aField (w : Word) : BitVec 8 := w.extractLsb' 8 8

/-- `B`, bits 7:0 (rule R111). -/
def bField (w : Word) : BitVec 8 := w.extractLsb' 0 8

/-- `A[6:0]`: the note (rule R112). -/
def noteField (w : Word) : BitVec 7 := w.extractLsb' 8 7

/-- `B[6:0]`: the velocity (rule R112). -/
def velField (w : Word) : BitVec 7 := w.extractLsb' 0 7

/-- The numeric values of the topologies: 0 = NORM, 1 = PI/2, 2 = PI, 3 = CROSS (rule R119). -/
def modeBits : Mode → BitVec 2
  | .norm => 0#2
  | .piHalf => 1#2
  | .pi => 2#2
  | .cross => 3#2

/-- The topology a 2-bit value names (rule R119). -/
def modeOfBits (b : BitVec 2) : Mode :=
  if b = 0#2 then .norm else if b = 1#2 then .piHalf else if b = 2#2 then .pi else .cross

/-- The stack operand: 0 = stack 1, 1 = stack 2 (rule R112). -/
def stackBit : StackId → BitVec 1
  | .one => 0#1
  | .two => 1#1

/-- The stack a 1-bit value names (rule R112). -/
def stackOfBit (b : BitVec 1) : StackId := if b = 0#1 then .one else .two

/-- Which of rule R114's kinds of illegal word `w` is; read only for a word that matches no row. -/
def rejectReason (w : Word) : Reject :=
  if opcField w = 0#4 ∨ 9#4 ≤ opcField w then .opcode
  else if rsvField w ≠ 0#12 then .reserved
  else .operandBits

/-- The decoder: a word is the named command exactly when `(W & mask) = match` (rule R113); any other word is
rejected by name (rule R114). -/
def decode (w : Word) : Except Reject Instr :=
  if w &&& 0xFFFFFFFF#32 = 0x10000000#32 then .ok .init
  else if w &&& 0xFFFFFF00#32 = 0x20000000#32 then .ok (.selpatch (bField w))
  else if w &&& 0xFFFF8080#32 = 0x30000000#32 then .ok (.noteon (noteField w) (velField w))
  else if w &&& 0xFFFF80FF#32 = 0x40000000#32 then .ok (.noteoff (noteField w))
  else if w &&& 0xFFFFFFFE#32 = 0x50000000#32 then .ok (.sustain (w.getLsbD 0))
  else if w &&& 0xFFFFFFFF#32 = 0x60000000#32 then .ok .tick
  else if w &&& 0xFFFFFFFF#32 = 0x70000000#32 then .ok .chorus
  else if w &&& 0xFFFFFEFC#32 = 0x80000000#32 then
    .ok (.setmode (stackOfBit (w.extractLsb' 8 1)) (modeOfBits (w.extractLsb' 0 2)))
  else .error (rejectReason w)

/-- A word from four bytes, the least significant first (rule R87: the convention of a host that serialises). -/
def wordOfBytes (b0 b1 b2 b3 : Byte) : Word := b3 ++ b2 ++ b1 ++ b0

/-- The decoder on a serialised command: one 32-bit word (rule R116) and the bytes that follow it. -/
def decodeBytes : List Byte → Except Reject (Instr × List Byte)
  | b0 :: b1 :: b2 :: b3 :: rest =>
    match decode (wordOfBytes b0 b1 b2 b3) with
    | .ok i => .ok (i, rest)
    | .error r => .error r
  | _ => .error .short

/-- The 32-bit command word of an opcode-table word of `nbits` bits: the bits above `nbits` are 0. -/
def tableWord (nbits w : Nat) : Word := BitVec.ofNat 32 (w % 2 ^ nbits)

/-- The instruction this decoder reads from an opcode-table word. A command is one 32-bit value (rule R87), so
there is no byte order to lay out. -/
def decodeTableWord (nbits w : Nat) : Option Instr :=
  match decode (tableWord nbits w) with
  | .ok i => some i
  | .error _ => none

/-- A row of the opcode map: the word is the command when `(W & mask) = value` (rule R113). -/
structure OpcodeRow where
  mask : Word
  value : Word
deriving DecidableEq, Repr

/-- The row of each command (rule R113). -/
def rowOf : Instr → OpcodeRow
  | .init => ⟨0xFFFFFFFF#32, 0x10000000#32⟩
  | .selpatch _ => ⟨0xFFFFFF00#32, 0x20000000#32⟩
  | .noteon _ _ => ⟨0xFFFF8080#32, 0x30000000#32⟩
  | .noteoff _ => ⟨0xFFFF80FF#32, 0x40000000#32⟩
  | .sustain _ => ⟨0xFFFFFFFE#32, 0x50000000#32⟩
  | .tick => ⟨0xFFFFFFFF#32, 0x60000000#32⟩
  | .chorus => ⟨0xFFFFFFFF#32, 0x70000000#32⟩
  | .setmode _ _ => ⟨0xFFFFFEFC#32, 0x80000000#32⟩

/-- The eight rows of rule R113, in its order. -/
def opcodeRows : List OpcodeRow :=
  [rowOf .init, rowOf (.selpatch 0#8), rowOf (.noteon 0#7 0#7), rowOf (.noteoff 0#7), rowOf (.sustain false),
   rowOf .tick, rowOf .chorus, rowOf (.setmode .one .norm)]

/-- The encoder: the bit patterns of rule R113, bit 31 first. -/
def encode : Instr → Word
  | .init => 0x1#4 ++ 0#12 ++ 0#8 ++ 0#8
  | .selpatch idx => 0x2#4 ++ 0#12 ++ 0#8 ++ idx
  | .noteon note vel => 0x3#4 ++ 0#12 ++ (0#1 ++ note) ++ (0#1 ++ vel)
  | .noteoff note => 0x4#4 ++ 0#12 ++ (0#1 ++ note) ++ 0#8
  | .sustain down => 0x5#4 ++ 0#12 ++ 0#8 ++ (0#7 ++ BitVec.ofBool down)
  | .tick => 0x6#4 ++ 0#12 ++ 0#8 ++ 0#8
  | .chorus => 0x7#4 ++ 0#12 ++ 0#8 ++ 0#8
  | .setmode stack mode => 0x8#4 ++ 0#12 ++ (0#7 ++ stackBit stack) ++ (0#6 ++ modeBits mode)

/-- The words of an assembler line (rules R117, R118); none for a line that is not well-formed. -/
def AsmLine.assemble (l : AsmLine) : Option (List Word) := l.expand.map (List.map encode)

end Sys2Proof
end

