-- ==== Sys2Proof/Config.lean ====
section
/-! DEFINITION. What one implementation of the gs1 CORE fixes (rule R12): the record of parameters every rule of the
datapath reads, and the parameters the spec leaves OPEN, as constants with no body (those of the key parameters stand in
Machine/Params.lean, after the rules they meet). None of it is state (rules R34, R35): nothing here changes while the
hardware runs. -/

namespace Sys2Proof

/-- A positive real number. -/
abbrev PosReal := { x : ℝ // 0 < x }

/-- One PatchConfig record of the patch memory; all entries are real numbers (rule R84). -/
structure PatchConfig where
  /-- Frequency ratio to the common base frequency. -/
  ratio : Quad ℝ
  /-- Fine detune, in cents. -/
  detuneCents : Quad ℝ
  /-- One 46-entry scaling curve an operator; entries 0 and 1 are its calibration bounds. -/
  curve : Quad (Vector ℝ 46)
  /-- Base attack constant: the unscaled attack time, in ticks. -/
  attackTime : Quad ℝ
  /-- Base decay constant. -/
  decayScaling : Quad ℝ
deriving Inhabited

/-- The three envelope rates of one operator, each in [0, `EA_MAX`] by its width (rule R250). -/
structure EnvRates where
  ar : BitVec 20
  dr : BitVec 20
  rr : BitVec 20
deriving DecidableEq, Repr, Inhabited

/-- The key parameters of one operator, each in its register's range by its width (rule R247). -/
structure KeyParams where
  cw : BitVec 28
  eg : BitVec 12
  ar : BitVec 20
  dr : BitVec 20
  rr : BitVec 20
deriving DecidableEq, Repr, Inhabited

/-- What NOTEON's key parameters come from: the four open parameters of rule R12 they are composed of, and the
function `KEYPARAM` itself, which is all the machine reads (rule R13). `KeyLegal` of Machine/KeyParam.lean says
that `KEYPARAM` is that composition. -/
structure KeyConfig where
  /-- `FS_INTERNAL` (rule R248). -/
  fsInternal : PosReal
  /-- `BASE_FREQ` (rule R248). -/
  baseFreq : BitVec 7 → PosReal
  /-- `EG_STAGE2` (rule R249). -/
  egStage2 : ℝ → Int
  /-- `ENV_RATES` (rule R250). -/
  envRates : PatchConfig → OpIdx → BitVec 7 → EnvRates
  /-- The control word where rule R248 divides by a zero frequency: a free value (log entry 9). -/
  cwOpen : PatchConfig → OpIdx → BitVec 7 → BitVec 28
  /-- `KEYPARAM` (rule R247); at an index that holds no record a free value (log entry 10). -/
  keyParam : BitVec 8 → BitVec 7 → Quad KeyParams

/-- The parameters of rule R12. -/
structure Params where
  /-- `LOGSIN_ROM` (rule R141). -/
  logsinRom : BitVec 8 → BitVec 12
  /-- `EXP_ROM` (rule R142). -/
  expRom : BitVec 8 → BitVec 10
  /-- `MARK` (rule R145). -/
  mark : Nat
  /-- `BASE` (rule R146). -/
  base : Nat
  /-- `SILENT` (rule R205). -/
  silent : Int
  /-- `EA_INIT` (rule R173). -/
  eaInit : BitVec 20
  /-- `EA_SUSTAIN` (rule R177). -/
  eaSustain : BitVec 20
  /-- `EG_DECAY_SAME_TICK` (rule R172). -/
  egDecaySameTick : Bool
  /-- `DECAY_SHAPE(EA, SL)` (rule R179). -/
  decayShape : BitVec 20 → BitVec 20 → BitVec 20
  /-- `RELEASE_SHAPE(EA, RS, RSx)` (rule R183). -/
  releaseShape : BitVec 20 → BitVec 20 → BitVec 20 → BitVec 20
  /-- `PI2_GATE_QUIRK` (rule R216). -/
  pi2GateQuirk : Bool
  /-- `KEY_LO` (rule R242). -/
  keyLo : Nat
  /-- `KEY_HI` (rule R242). -/
  keyHi : Nat
  /-- `NPATCH` (rule R241). -/
  npatch : Nat
  /-- `PATCHMEM` (rule R84). -/
  patchMem : BitVec 8 → Option PatchConfig
  /-- `FS_INTERNAL`, `BASE_FREQ`, `EG_STAGE2`, `ENV_RATES` and the `KEYPARAM` composed of them. -/
  key : KeyConfig
  /-- `MIX_NORM` (rule R262). -/
  mixNorm : PosReal
  /-- `DL_CAP` (rule R85). -/
  dlCap : Nat
  /-- `LFO_DELAY(k, t)` before its clamp (rules R287, R288). -/
  lfo : Line → BitVec 16 → Nat
  /-- `MODE_RESET` of stack 1 (rule R38). -/
  modeReset1 : Mode
  /-- `MODE_RESET` of stack 2 (rule R38). -/
  modeReset2 : Mode

/-- `LFO_DELAY` before its clamp: OPEN (rule R12). -/
opaque Config.lfo : Line → BitVec 16 → Nat

end Sys2Proof
end

