-- ==== Sys2Proof/Machine/KeyParam.lean ====
section
/-! DEFINITION. The key parameters NOTEON loads (rules R247 to R250), composed over the real numbers of the open
parameters and of a patch record. These definitions are noncomputable, as real arithmetic is; the machine reads the
function `KEYPARAM` (rule R13), which `KeyLegal` holds to this composition. -/

namespace Sys2Proof.Machine

/-- `KEYPARAM(p, note)` (rule R247), as NOTEON reads it. -/
def keyParam (P : Params) (idx : BitVec 8) (note : BitVec 7) : Quad KeyParams := P.key.keyParam idx note

/-- `round(x)`: the nearest integer, halves away from zero (rule R15). -/
noncomputable def roundAway (x : ℝ) : Int := if 0 ≤ x then ⌊x + 1 / 2⌋ else -⌊-x + 1 / 2⌋

/-- `DETUNE(c) = 2^(c / 1200)` (rule R248, from general knowledge; log entry 20). -/
noncomputable def detune (cents : ℝ) : ℝ := (2 : ℝ) ^ (cents / 1200)

/-- `f[i]`, the operator's frequency (rule R248). It is not stored (rule R26). -/
noncomputable def frequency (K : KeyConfig) (rec : PatchConfig) (i : OpIdx) (note : BitVec 7) : ℝ :=
  K.baseFreq note * detune (rec.detuneCents.get i) * rec.ratio.get i

/-- `CW[i] = round(2^28 / (FS_INTERNAL / f[i])) mod 2^28` (rule R248). At a frequency of 0 the rule divides by zero and
a free value stands in its place (log entry 9). -/
noncomputable def controlWord (K : KeyConfig) (rec : PatchConfig) (i : OpIdx) (note : BitVec 7) : BitVec 28 :=
  let f := frequency K rec i note
  if f = 0 then K.cwOpen rec i note else BitVec.ofInt 28 (roundAway (2 ^ 28 / (K.fsInternal / f)))

/-- The curve index `clamp(floor(note / 2) + 2, 2, 45)` (rule R249). -/
def curveIndex (note : BitVec 7) : Fin 46 := ⟨min (max (note.toNat / 2 + 2) 2) 45, by omega⟩

/-- Stage one of the remap: the entry between the two calibration bounds, in [0, 1] (rule R249). -/
noncomputable def scaleFactor (curve : Vector ℝ 46) (note : BitVec 7) : ℝ :=
  let lo := curve[0]
  let hi := curve[1]
  if hi = lo then 0 else min (max ((curve[curveIndex note] - lo) / (hi - lo)) 0) 1

/-- `EG[i] = clamp(EG_STAGE2(x), 0, 4095)` (rule R249). -/
noncomputable def scalingConstant (K : KeyConfig) (rec : PatchConfig) (i : OpIdx) (note : BitVec 7) : BitVec 12 :=
  BitVec.ofInt 12 (min (max (K.egStage2 (scaleFactor (rec.curve.get i) note)) 0) 4095)

/-- The composition of rules R248, R249 and R250 for one operator of a record (rule R247). -/
noncomputable def operatorParams (K : KeyConfig) (rec : PatchConfig) (i : OpIdx) (note : BitVec 7) : KeyParams :=
  let rates := K.envRates rec i note
  { cw := controlWord K rec i note, eg := scalingConstant K rec i note, ar := rates.ar, dr := rates.dr, rr := rates.rr }

/-- A linear function of the note index. -/
noncomputable def linearScale (slope offset : ℝ) (note : BitVec 7) : ℝ := slope * note.toNat + offset

/-- `rate` is the real rate `num / den` rounded to an integer, up or down, and clamped to [`lo`, `EA_MAX`]. It is
written without the division, so that a `den` of 0 gives the largest rate. -/
def RoundedRate (lo : Nat) (num den : ℝ) (rate : BitVec 20) : Prop :=
  lo ≤ rate.toNat ∧ (rate.toNat = lo ∨ ((rate.toNat : ℝ) - 1) * den < num) ∧
    (rate.toNat = 0xFFFFF ∨ num < ((rate.toNat : ℝ) + 1) * den)

/-- What rule R250 requires of the rates of one operator of one record, for `EA_INIT` = `eaInit`. (a) holds by the width
of the rates. -/
structure RatesLegal (eaInit : BitVec 20) (attackTime : ℝ) (rates : BitVec 7 → EnvRates) : Prop where
  /-- (b) `AR` is at least 1. -/
  attack_pos : ∀ n, 1 ≤ (rates n).ar.toNat
  /-- (b) and (c): one scale factor, linear in the note, multiplies the base rates of the three segments; the base rate
  of the attack is the one that takes `attackTime` ticks from `EA_INIT` to the maximum, so that the attack lasts
  `attackTime / scale` ticks up to the rounding of `AR` (log entry 4). -/
  scaled : ∃ slope offset decayRate releaseRate : ℝ, ∀ n,
    RoundedRate 1 ((0xFFFFF - (eaInit.toNat : ℝ)) * linearScale slope offset n) attackTime (rates n).ar ∧
    RoundedRate 0 (decayRate * linearScale slope offset n) 1 (rates n).dr ∧
    RoundedRate 0 (releaseRate * linearScale slope offset n) 1 (rates n).rr
  /-- (d) A higher note gives rates that are not smaller. -/
  rise : ∀ m n, m.toNat ≤ n.toNat → (rates m).ar.toNat ≤ (rates n).ar.toNat ∧
    (rates m).dr.toNat ≤ (rates n).dr.toNat ∧ (rates m).rr.toNat ≤ (rates n).rr.toNat

/-- What the spec requires of the open parameters behind the key parameters, over the records of `mem`: `KEYPARAM` is
the composition of rules R248 to R250, and `ENV_RATES` meets rule R250. -/
structure KeyLegal (eaInit : BitVec 20) (mem : BitVec 8 → Option PatchConfig) (K : KeyConfig) : Prop where
  composed : ∀ idx rec note i, mem idx = some rec → (K.keyParam idx note).get i = operatorParams K rec i note
  rates : ∀ idx rec i, mem idx = some rec → RatesLegal eaInit (rec.attackTime.get i) (K.envRates rec i)

end Sys2Proof.Machine
end

