-- ==== Sys2Proof/Machine/Params.lean ====
section
/-! DEFINITION. The parameters of this machine (rule R12): the default tables and shapes of rules R141, R142, R179
and R183, the default constants, and the OPEN parameters of Config. -/

namespace Sys2Proof.Machine

/-- The default `LOGSIN_ROM` (rule R141), sixteen entries a row, entries 0..127. -/
def logsinRowsLo : List (List Nat) :=
  [[2137, 1731, 1543, 1419, 1326, 1252, 1190, 1137, 1091, 1050, 1013, 979, 949, 920, 894, 869],
   [846, 825, 804, 785, 767, 749, 732, 717, 701, 687, 672, 659, 646, 633, 621, 609],
   [598, 587, 576, 566, 556, 546, 536, 527, 518, 509, 501, 492, 484, 476, 468, 461],
   [453, 446, 439, 432, 425, 418, 411, 405, 399, 392, 386, 380, 375, 369, 363, 358],
   [352, 347, 341, 336, 331, 326, 321, 316, 311, 307, 302, 297, 293, 289, 284, 280],
   [276, 271, 267, 263, 259, 255, 251, 248, 244, 240, 236, 233, 229, 226, 222, 219],
   [215, 212, 209, 205, 202, 199, 196, 193, 190, 187, 184, 181, 178, 175, 172, 169],
   [167, 164, 161, 159, 156, 153, 151, 148, 146, 143, 141, 138, 136, 134, 131, 129]]

/-- The default `LOGSIN_ROM` (rule R141), sixteen entries a row, entries 128..255. -/
def logsinRowsHi : List (List Nat) :=
  [[127, 125, 122, 120, 118, 116, 114, 112, 110, 108, 106, 104, 102, 100, 98, 96],
   [94, 92, 91, 89, 87, 85, 83, 82, 80, 78, 77, 75, 74, 72, 70, 69],
   [67, 66, 64, 63, 62, 60, 59, 57, 56, 55, 53, 52, 51, 49, 48, 47],
   [46, 45, 43, 42, 41, 40, 39, 38, 37, 36, 35, 34, 33, 32, 31, 30],
   [29, 28, 27, 26, 25, 24, 23, 23, 22, 21, 20, 20, 19, 18, 17, 17],
   [16, 15, 15, 14, 13, 13, 12, 12, 11, 10, 10, 9, 9, 8, 8, 7],
   [7, 7, 6, 6, 5, 5, 5, 4, 4, 4, 3, 3, 3, 2, 2, 2],
   [2, 1, 1, 1, 1, 1, 1, 1, 0, 0, 0, 0, 0, 0, 0, 0]]

/-- The default `EXP_ROM` (rule R142), sixteen entries a row, entries 0..127. -/
def expRowsLo : List (List Nat) :=
  [[0, 3, 6, 8, 11, 14, 17, 20, 22, 25, 28, 31, 34, 37, 40, 42],
   [45, 48, 51, 54, 57, 60, 63, 66, 69, 72, 75, 78, 81, 84, 87, 90],
   [93, 96, 99, 102, 105, 108, 111, 114, 117, 120, 123, 126, 130, 133, 136, 139],
   [142, 145, 148, 152, 155, 158, 161, 164, 168, 171, 174, 177, 181, 184, 187, 190],
   [194, 197, 200, 204, 207, 210, 214, 217, 220, 224, 227, 231, 234, 237, 241, 244],
   [248, 251, 255, 258, 262, 265, 268, 272, 276, 279, 283, 286, 290, 293, 297, 300],
   [304, 308, 311, 315, 318, 322, 326, 329, 333, 337, 340, 344, 348, 352, 355, 359],
   [363, 367, 370, 374, 378, 382, 385, 389, 393, 397, 401, 405, 409, 412, 416, 420]]

/-- The default `EXP_ROM` (rule R142), sixteen entries a row, entries 128..255. -/
def expRowsHi : List (List Nat) :=
  [[424, 428, 432, 436, 440, 444, 448, 452, 456, 460, 464, 468, 472, 476, 480, 484],
   [488, 492, 496, 501, 505, 509, 513, 517, 521, 526, 530, 534, 538, 542, 547, 551],
   [555, 560, 564, 568, 572, 577, 581, 585, 590, 594, 599, 603, 607, 612, 616, 621],
   [625, 630, 634, 639, 643, 648, 652, 657, 661, 666, 670, 675, 680, 684, 689, 693],
   [698, 703, 708, 712, 717, 722, 726, 731, 736, 741, 745, 750, 755, 760, 765, 770],
   [774, 779, 784, 789, 794, 799, 804, 809, 814, 819, 824, 829, 834, 839, 844, 849],
   [854, 859, 864, 869, 874, 880, 885, 890, 895, 900, 906, 911, 916, 921, 927, 932],
   [937, 942, 948, 953, 959, 964, 969, 975, 980, 986, 991, 996, 1002, 1007, 1013, 1018]]

/-- The element at an 8-bit index of a table of sixteen rows of sixteen: `MemRead` of rule R80, every index in range
(rule R88). -/
def tableAt (rows : List (List Nat)) (i : BitVec 8) : Nat :=
  (rows.getD (i.toNat / 16) []).getD (i.toNat % 16) 0

/-- The default `LOGSIN_ROM` (rule R141). Its contents are from general knowledge (log entry 5). -/
def logsinRomDefault (i : BitVec 8) : BitVec 12 := BitVec.ofNat 12 (tableAt (logsinRowsLo ++ logsinRowsHi) i)

/-- The default `EXP_ROM` (rule R142). Its contents are from general knowledge (log entry 5). -/
def expRomDefault (i : BitVec 8) : BitVec 10 := BitVec.ofNat 10 (tableAt (expRowsLo ++ expRowsHi) i)

/-- `EXPLIN_ROM[i] = i` (rules R83, R143). No rule reads it. -/
def explinRom (i : BitVec 12) : BitVec 12 := i

/-- The full level `0xFFFFF` of an envelope accumulator, `EA_MAX` (rule R11). -/
def eaMax : BitVec 20 := 0xFFFFF#20

/-- The default `DECAY_SHAPE(EA, SL)` over an exponential table (rule R179). -/
def decayShapeOf (rom : BitVec 8 → BitVec 10) (ea sl : BitVec 20) : BitVec 20 :=
  let span := eaMax.toNat - sl.toNat
  if span = 0 then sl
  else
    let pos := ((ea.toNat - sl.toNat) * 255) / span
    BitVec.ofNat 20 (sl.toNat + (span * (rom (BitVec.ofNat 8 pos)).toNat) / (rom 255#8).toNat)

/-- The default `RELEASE_SHAPE(EA, RS, RSx)` over an exponential table (rule R183). -/
def releaseShapeOf (rom : BitVec 8 → BitVec 10) (ea rs rsx : BitVec 20) : BitVec 20 :=
  if rs.toNat = 0 then 0#20
  else
    let pos := min ((ea.toNat * 255) / rs.toNat) 255
    BitVec.ofNat 20 ((rsx.toNat * (rom (BitVec.ofNat 8 pos)).toNat) / (rom 255#8).toNat)

/-- A patch memory of `NPATCH` = 2: slot 1 holds a record (the source: "only slot 1 populated"), slot 0 a record or
none, and there is none at `NPATCH` and above (93_implementation_defined.md U14; log entry 7). -/
def patchMemOf (patch0 : Option PatchConfig) (patch1 : PatchConfig) (idx : BitVec 8) : Option PatchConfig :=
  if idx = 1#8 then some patch1 else if idx = 0#8 then patch0 else none

/-- The open parameters behind the key parameters, with the two slots of the patch memory, meeting what the spec
requires of every instantiation (rules R12, R84, R247 to R250). -/
structure OpenKey where
  patch0 : Option PatchConfig
  patch1 : PatchConfig
  key : KeyConfig
  legal : KeyLegal 0#20 (patchMemOf patch0 patch1) key

/-- A record of zeros but for an attack time of one tick. -/
def plainPatch : PatchConfig :=
  { ratio := Quad.all 0, detuneCents := Quad.all 0, curve := Quad.all (Vector.replicate 46 0),
    attackTime := Quad.all 1, decayScaling := Quad.all 0 }

/-- Open parameters that meet every requirement over `plainPatch`. They only show that there are some. -/
def plainKey : KeyConfig :=
  { fsInternal := ⟨1, one_pos⟩, baseFreq := fun _ => ⟨1, one_pos⟩, egStage2 := fun _ => 0,
    envRates := fun _ _ _ => ⟨0xFFFFF#20, 0#20, 0#20⟩, cwOpen := fun _ _ _ => 0#28,
    keyParam := fun _ _ => Quad.all ⟨0#28, 0#12, 0xFFFFF#20, 0#20, 0#20⟩ }

theorem plainKey_legal : KeyLegal 0#20 (patchMemOf none plainPatch) plainKey := by
  constructor
  · intro idx rec note i h
    have hrec : rec = plainPatch := by
      unfold patchMemOf at h
      split at h
      · exact (Option.some.inj h).symm
      · split at h <;> cases h
    subst hrec
    cases i <;>
      simp [plainKey, plainPatch, operatorParams, controlWord, frequency, scalingConstant, scaleFactor, Quad.get, Quad.all]
  · intro idx rec i h
    have hrec : rec = plainPatch := by
      unfold patchMemOf at h
      split at h
      · exact (Option.some.inj h).symm
      · split at h <;> cases h
    subst hrec
    refine ⟨fun n => by simp [plainKey], ⟨0, 1, 0, 0, fun n => ?_⟩, fun m n _ => by simp [plainKey]⟩
    cases i <;> norm_num [RoundedRate, linearScale, plainKey, plainPatch, Quad.get, Quad.all]

/-- The open parameters of this machine: OPEN, but for what the spec requires of them. The constant has no body; it is
applied to a member of its type, which shows the type is not empty and says nothing of its value. -/
opaque Config.openKey [Inhabited OpenKey] : OpenKey

/-- `Config.openKey` of this machine. -/
def openKey : OpenKey := @Config.openKey ⟨⟨none, plainPatch, plainKey, plainKey_legal⟩⟩

/-- The parameters of this machine: the default of rule R12 where it decides one, an opaque constant where it says
OPEN. -/
def params : Params :=
  { logsinRom := logsinRomDefault
    expRom := expRomDefault
    mark := 0x8000
    base := 0x400
    silent := 0
    eaInit := 0#20
    eaSustain := 0#20
    egDecaySameTick := false
    decayShape := decayShapeOf expRomDefault
    releaseShape := releaseShapeOf expRomDefault
    pi2GateQuirk := false
    keyLo := 0
    keyHi := 87
    npatch := 2
    patchMem := patchMemOf openKey.patch0 openKey.patch1
    key := openKey.key
    mixNorm := ⟨131072, by norm_num⟩
    dlCap := 64
    lfo := Config.lfo
    modeReset1 := .norm
    modeReset2 := .norm }

end Sys2Proof.Machine
end

