-- ==== Sys2Proof/Machine/State.lean ====
section
/-! DEFINITION. The state of the gs1 CORE as plain data (rules R20 to R33), the state after reset (rule R38), and the
reasons a step can stop. -/

namespace Sys2Proof.Machine

/-- The envelope stage `STATE`: codes 0, 1, 2 (rule R23). A three-valued type: code 3 is never written
(93_implementation_defined.md U9). -/
inductive Stage where
  /-- Code 0, idle/release. -/
  | idle
  /-- Code 1, attack. -/
  | attack
  /-- Code 2, decay/sustain. -/
  | decay
deriving DecidableEq, Repr, Inhabited

/-- The fields of one operator of one voice (rule R23). -/
structure OpRegs where
  /-- `STATE`. -/
  stage : Stage
  /-- `EA`, the envelope accumulator. -/
  ea : BitVec 20
  /-- `EAx`, the shaped envelope value. -/
  eax : BitVec 20
  /-- `EAo`, `EA` at the end of the previous tick. -/
  eao : BitVec 20
  /-- `RS`, `EA` at the falling gate edge. -/
  rs : BitVec 20
  /-- `RSx`, `EAx` at the falling gate edge. -/
  rsx : BitVec 20
  /-- `AR`, the attack rate. -/
  ar : BitVec 20
  /-- `DR`, the decay rate. -/
  dr : BitVec 20
  /-- `RR`, the release rate. -/
  rr : BitVec 20
  /-- `RRA`, the active release rate. -/
  rra : BitVec 20
  /-- `PA`, the phase accumulator. -/
  pa : BitVec 28
  /-- `PAE`, the externally visible phase. -/
  pae : BitVec 10
  /-- `CW`, the control word. -/
  cw : BitVec 28
  /-- `AMP`, the attenuation. -/
  amp : BitVec 12
deriving DecidableEq, Repr

/-- The fields of one voice (rule R21). -/
structure Voice where
  /-- `NOTE`. -/
  note : BitVec 7
  /-- `VEL`. -/
  vel : BitVec 7
  /-- `noteOn`. -/
  noteOn : Bool
  /-- `sustaining`. -/
  sustaining : Bool
  /-- `GATENEW`, the requested gate (rule R24). -/
  gateNew : Bool
  /-- `GATE`, the gate applied this tick (rule R24). -/
  gate : Bool
  /-- `GATEOLD`, the gate applied the tick before (rule R24). -/
  gateOld : Bool
  /-- `M1old1`, signed (rule R25). -/
  m1old1 : BitVec 14
  /-- `M1old2`, signed (rule R25). -/
  m1old2 : BitVec 14
  /-- `M2old1`, signed (rule R25). -/
  m2old1 : BitVec 14
  /-- `M2old2`, signed (rule R25). -/
  m2old2 : BitVec 14
  /-- `EG[0..3]`, the cached scaling constants. -/
  eg : Quad (BitVec 12)
  /-- The per-operator fields. -/
  op : Quad OpRegs
deriving DecidableEq, Repr

/-- `STATUS` (rule R29): bit 0 `READY`, bit 1 `FAULT`. -/
structure Status where
  ready : Bool
  fault : Bool
deriving DecidableEq, Repr

/-- `PATCHSEL` (rule R30): the valid bit and the index. -/
structure PatchSel where
  v : Bool
  idx : BitVec 8
deriving DecidableEq, Repr

/-- The contents of one delay line `DL[k]` (rules R33, R85): the elements that differ from what an unlisted index
reads as, by rising index. -/
abbrev Memory := List (Nat × Sample)

/-- What an unlisted index of a delay line reads as: the reset value 0 (rule R38). -/
def Memory.unlisted : Sample := 0#18

/-- The capacity `DL_CAP` of a delay line of this machine (rule R85). -/
def dlCap : Nat := params.dlCap

/-- No index of `m` is `lo` or below, and what follows is in canonical form. -/
def Memory.wfAbove (lo : Nat) : Memory → Bool
  | [] => true
  | (i, x) :: m => decide (lo ≤ i) && decide (i < dlCap) && decide (x ≠ Memory.unlisted) && Memory.wfAbove (i + 1) m

/-- The canonical form: indices strictly rising and below `DL_CAP`, no element equal to what an unlisted index
reads as. Equal contents are then equal lists. -/
def Memory.wf (m : Memory) : Bool := Memory.wfAbove 0 m

/-- The three delay lines (rule R33). -/
structure DelayLines where
  a : Memory
  b : Memory
  c : Memory
deriving DecidableEq, Repr

/-- `DL[k]`. -/
def DelayLines.line (d : DelayLines) : Line → Memory
  | .a => d.a
  | .b => d.b
  | .c => d.c

/-- What the host can present to the hardware: a command word on the command port (rule R10), or the reset input
(rule R330). -/
inductive PortInput where
  | word (w : Word)
  | reset
deriving DecidableEq, Repr

/-- The state of the hardware (rule R20), and `port`, the inputs the host has still to present, in arrival order.
`port` is the MODEL's own field (DESIGN CHOICE, log entry 1): there is no program counter and no stored program
(rule R22), so it is what a step takes its next command from. -/
structure State where
  /-- `V[0..31]` (rule R21). -/
  voices : Vector Voice 32
  /-- `RRIDX` (rule R28). -/
  rridx : BitVec 5
  /-- `STATUS` (rule R29). -/
  status : Status
  /-- `CAUSE` (rules R29, R301). -/
  cause : BitVec 3
  /-- `PATCHSEL` (rule R30). -/
  patchSel : PatchSel
  /-- `MODE1` (rule R31). -/
  mode1 : Mode
  /-- `MODE2` (rule R31). -/
  mode2 : Mode
  /-- `MIX`, signed (rule R32). -/
  mix : Sample
  /-- `OUTL`, signed, in half-units (rule R32). -/
  outl : BitVec 20
  /-- `OUTR`, signed, in half-units (rule R32). -/
  outr : BitVec 20
  /-- `DL[A..C]` (rule R33). -/
  dl : DelayLines
  /-- `WP` (rule R33). -/
  wp : BitVec 6
  /-- `CHTICK` (rule R33). -/
  chtick : BitVec 16
  /-- The inputs still to be presented. -/
  port : List PortInput
deriving DecidableEq, Repr

/-- Why a step stops with a fault. There is no such reason on this hardware: a precondition violation is a state
change (rule R303: `STATUS.FAULT`, `CAUSE`) after which the machine goes on ignoring words (rule R304), and every
other out-of-range value is clamped (rule R310). The type is therefore empty (safe: no step can answer it). -/
inductive Fault where
deriving DecidableEq, Repr

/-- Why the model gives an instruction no meaning. -/
inductive Refusal where
  /-- Raised by an arm of `exec` whose instruction has no meaning yet; no arm of this model raises it (safe). -/
  | notModelled (mnemonic : String)
deriving DecidableEq, Repr

/-- The outcome of a command or of a step. -/
abbrev Result := Host.Outcome State Fault Refusal

/-- Every per-operator field at its reset value: 0, idle, fully attenuated (rule R38). -/
def OpRegs.reset : OpRegs :=
  { stage := .idle, ea := 0#20, eax := 0#20, eao := 0#20, rs := 0#20, rsx := 0#20, ar := 0#20, dr := 0#20,
    rr := 0#20, rra := 0#20, pa := 0#28, pae := 0#10, cw := 0#28, amp := 4095#12 }

/-- Every per-voice field at its reset value (rule R38). -/
def Voice.reset : Voice :=
  { note := 0#7, vel := 0#7, noteOn := false, sustaining := false, gateNew := false, gate := false,
    gateOld := false, m1old1 := 0#14, m1old2 := 0#14, m2old1 := 0#14, m2old2 := 0#14, eg := Quad.all 0#12,
    op := Quad.all OpRegs.reset }

/-- The machine right after reset for any parameters (rules R38, R330, R331), with no input presented. -/
def State.resetWith (P : Params) : State :=
  { voices := Vector.replicate 32 Voice.reset, rridx := 0#5, status := { ready := false, fault := false },
    cause := 0#3, patchSel := { v := false, idx := 0#8 }, mode1 := P.modeReset1, mode2 := P.modeReset2,
    mix := 0#18, outl := 0#20, outr := 0#20, dl := { a := [], b := [], c := [] }, wp := 0#6, chtick := 0#16,
    port := [] }

/-- This machine right after reset. -/
def State.reset : State := State.resetWith params

end Sys2Proof.Machine
end

