-- ==== Sys2Proof/Machine/Flags.lean ====
section
/-! DEFINITION. The one-bit flags (rule R39): the fault causes and the status word, the gate edges, and the writes of
the gate and key flags that NOTEON, NOTEOFF, SUSTAIN and TICK make. There are no condition codes. -/

namespace Sys2Proof.Machine

/-- The fault causes (rule R301). -/
inductive Cause where
  /-- `E_NOTABLES`. -/
  | noTables
  /-- `E_BADPATCH`. -/
  | badPatch
  /-- `E_BADNOTE`. -/
  | badNote
  /-- `E_ILLEGAL`. -/
  | illegal
deriving DecidableEq, Repr

/-- The code of a cause, as `CAUSE` holds it (rule R301). -/
def causeCode : Cause → BitVec 3
  | .noTables => 1#3
  | .badPatch => 2#3
  | .badNote => 3#3
  | .illegal => 4#3

/-- `STATUS` as the host reads it: bit 0 `READY`, bit 1 `FAULT` (rule R29). -/
def statusWord (st : Status) : BitVec 2 := BitVec.ofBool st.fault ++ BitVec.ofBool st.ready

/-- The code of an envelope stage (rule R23). -/
def stageCode : Stage → BitVec 2
  | .idle => 0#2
  | .attack => 1#2
  | .decay => 2#2

/-- A rising gate edge: `GATEOLD = 0` and `GATE = 1` (rule R171). -/
def rising (gateOld gate : Bool) : Bool := !gateOld && gate

/-- A falling gate edge: `GATEOLD = 1` and `GATE = 0` (rule R171). -/
def falling (gateOld gate : Bool) : Bool := gateOld && !gate

/-- `GateLatch()`: `GATEOLD <- GATE; GATE <- GATENEW` (rule R215). -/
def gateLatch (v : Voice) : Voice := { v with gateOld := v.gate, gate := v.gateNew }

/-- What NOTEOFF does to a voice (rule R251): a voice that holds the note loses `noteOn`, and `GATENEW` too unless
the pedal sustains it. -/
def releaseFlags (note : BitVec 7) (v : Voice) : Voice :=
  if v.noteOn = true ∧ v.note = note then
    { v with gateNew := v.gateNew && v.sustaining, noteOn := false }
  else v

/-- What SUSTAIN does to a voice (rule R252): it takes the pedal's position, and pedal up lowers `GATENEW` of a voice
that is not held. -/
def pedalFlags (down : Bool) (v : Voice) : Voice :=
  { v with sustaining := down, gateNew := v.gateNew && (down || v.noteOn) }

end Sys2Proof.Machine
end

