-- ==== Sys2Proof/Machine/Ops.lean ====
section
/-! DEFINITION. The named operations over the delay-line memories and the registers; raising a fault, ignoring words
while halted, and the reset input; the writes of the global registers. -/

namespace Sys2Proof.Machine

/-- `MemRead(DL[k], i)` (rules R15, R80). -/
def Memory.read : Memory → Nat → Sample
  | [], _ => Memory.unlisted
  | (j, x) :: m, i => if i = j then x else Memory.read m i

/-- An element put in front of the elements at higher indices; left out where it equals what an unlisted index reads
as, which keeps the canonical form. -/
def Memory.put (i : Nat) (x : Sample) (m : Memory) : Memory :=
  if x = Memory.unlisted then m else (i, x) :: m

/-- `MemWrite(DL[k], i, x)` (rules R15, R80). -/
def Memory.write (i : Nat) (x : Sample) : Memory → Memory
  | [] => Memory.put i x []
  | (j, y) :: m =>
    if i < j then Memory.put i x ((j, y) :: m)
    else if i = j then Memory.put i x m
    else (j, y) :: Memory.write i x m

/-- The same write to the three lines (rule R283). -/
def DelayLines.writeAll (d : DelayLines) (i : Nat) (x : Sample) : DelayLines :=
  { a := Memory.write i x d.a, b := Memory.write i x d.b, c := Memory.write i x d.c }

/-- The same function applied to each of the 32 voices. -/
def mapVoices (f : Voice → Voice) (vs : Vector Voice 32) : Vector Voice 32 :=
  Vector.mk (Array.mk (vs.toList.map f)) (by simp)

/-- `V[v]`. -/
def State.voice (s : State) (v : Fin 32) : Voice := s.voices[v.val]

/-- The voice a 5-bit index names (rule R28). -/
def voiceIdx (r : BitVec 5) : Fin 32 := ⟨r.toNat, r.isLt⟩

/-- `V[v] <- x`. -/
def State.setVoice (s : State) (v : Fin 32) (x : Voice) : State := { s with voices := s.voices.set v.val x v.isLt }

/-- `for v in 0..31: V[v] <- f(V[v])`. -/
def State.mapVoice (s : State) (f : Voice → Voice) : State := { s with voices := mapVoices f s.voices }

/-- `STATUS.READY <- 1`. -/
def State.setReady (s : State) : State := { s with status := { s.status with ready := true } }

/-- `RRIDX <- r`. -/
def State.setRridx (s : State) (r : BitVec 5) : State := { s with rridx := r }

/-- `PATCHSEL.V <- 1; PATCHSEL.IDX <- idx`. -/
def State.selectPatch (s : State) (idx : BitVec 8) : State := { s with patchSel := { v := true, idx := idx } }

/-- `MODE1 <- m`. -/
def State.setMode1 (s : State) (m : Mode) : State := { s with mode1 := m }

/-- `MODE2 <- m`. -/
def State.setMode2 (s : State) (m : Mode) : State := { s with mode2 := m }

/-- `MIX <- acc`: the integer held in 18 bits (rule R32). -/
def State.setMix (s : State) (acc : Int) : State := { s with mix := BitVec.ofInt 18 acc }

/-- `OUTL <- l; OUTR <- r`: the integers held in 20 bits (rule R32). -/
def State.setOut (s : State) (l r : Int) : State := { s with outl := BitVec.ofInt 20 l, outr := BitVec.ofInt 20 r }

/-- The three lines rewritten. -/
def State.setLines (s : State) (d : DelayLines) : State := { s with dl := d }

/-- `WP <- (WP + 1) mod DL_CAP; CHTICK <- (CHTICK + 1) mod 65536` (rules R85, R286). -/
def State.advanceChorus (cap : Nat) (s : State) : State :=
  { s with wp := BitVec.ofNat 6 ((s.wp.toNat + 1) % cap), chtick := s.chtick + 1#16 }

/-- The inputs the host has still to present. -/
def State.setPort (s : State) (p : List PortInput) : State := { s with port := p }

/-- Fault entry, `raise Fault(cause)`: `STATUS.FAULT <- 1; CAUSE <- cause`; nothing is saved, control goes nowhere and
no other state changes (rule R303). -/
def raiseFault (c : Cause) (s : State) : State :=
  { s with status := { s.status with fault := true }, cause := causeCode c }

/-- The reset input: every piece of state at its reset value, whatever it was (rule R330). It is the only way out of a
fault, for there is no return command (rule R305). The inputs not yet presented are the host's and stay. -/
def resetInput (s : State) : State := State.reset.setPort s.port

/-- Halt: while `STATUS.FAULT` = 1 a word is ignored and no state changes (rules R120 (1), R304). -/
def unlessHalted (s : State) (body : State → Result) : Result :=
  if s.status.fault = true then .next s else body s

/-- The checks that stand before every command but INIT: the halt, then `STATUS.READY` (rule R120 (1), (3)). -/
def whenReady (s : State) (body : State → Result) : Result :=
  unlessHalted s fun s => if s.status.ready = true then body s else .next (raiseFault .noTables s)

/-- A word that is no command raises `E_ILLEGAL` (rules R114, R120 (2)). -/
def illegalWord (s : State) : Result := unlessHalted s fun s => .next (raiseFault .illegal s)

end Sys2Proof.Machine
end

