-- ==== Sys2Proof/Machine/Operands.lean ====
section
/-! DEFINITION. The operands of the commands against the supported sets (rule R115), the operator indices of a stack
(rule R16), and the fields of a stack and of a mode. -/

namespace Sys2Proof.Machine

/-- The supported set of patches: `idx < NPATCH` and a record at `idx` (rules R115, R241). -/
def patchSupported (P : Params) (idx : BitVec 8) : Bool := decide (idx.toNat < P.npatch) && (P.patchMem idx).isSome

/-- The supported key range: `KEY_LO <= note <= KEY_HI` (rules R115, R242, R251). -/
def noteSupported (P : Params) (note : BitVec 7) : Bool := decide (P.keyLo ≤ note.toNat) && decide (note.toNat ≤ P.keyHi)

/-- `c(s)`, the carrier of stack `s` (rule R16). -/
def carrierOf : StackId → OpIdx
  | .one => .c1
  | .two => .c2

/-- `m(s)`, the modulator of stack `s` (rule R16). -/
def modulatorOf : StackId → OpIdx
  | .one => .m1
  | .two => .m2

/-- `other(s)` (rule R210). -/
def otherStack : StackId → StackId
  | .one => .two
  | .two => .one

/-- `MODEs`. -/
def State.modeOf (s : State) : StackId → Mode
  | .one => s.mode1
  | .two => s.mode2

/-- `MODEs <- m` (rule R253). -/
def State.setModeOf (s : State) (st : StackId) (m : Mode) : State :=
  match st with
  | .one => s.setMode1 m
  | .two => s.setMode2 m

end Sys2Proof.Machine
end

