-- ==== Sys2Proof/Machine/Chorus.lean ====
section
/-! DEFINITION. Block `modulated_delay_chorus`: CHORUS, and the real-valued view of the outputs. -/

namespace Sys2Proof.Machine

/-- The largest delay of a line: 61, 60 and 63 samples for A, B and C (rules R281, R288). -/
def lineRange : Line → Nat
  | .a => 61
  | .b => 60
  | .c => 63

/-- `LFO_DELAY(k, t)`: an open function, clamped to its line's range as rules R288 and R310 require. -/
def lfoDelay (P : Params) (k : Line) (t : BitVec 16) : Nat := min (P.lfo k t) (lineRange k)

/-- `Push()`: `MIX` written at `WP` in the three lines (rule R283). -/
def chorusPush (s : State) : State := s.setLines (s.dl.writeAll s.wp.toNat s.mix)

/-- The index of `Tap(k)`: `(WP - d) mod DL_CAP` (rules R85, R284). -/
def tapIndex (P : Params) (k : Line) (s : State) : Nat :=
  (((s.wp.toNat : Int) - lfoDelay P k s.chtick) % P.dlCap).toNat

/-- `Tap(k)`, signed (rule R284). -/
def chorusTap (P : Params) (k : Line) (s : State) : Int := (Memory.read (s.dl.line k) (tapIndex P k s)).toInt

/-- CHORUS for any parameters: push, read the three taps, form the outputs, advance the counters (rules R282, R285,
R286). -/
def chorus (P : Params) (s : State) : State :=
  let p := chorusPush s
  (p.setOut (chorusTap P .a p + 2 * chorusTap P .c p) (chorusTap P .a p + 2 * chorusTap P .b p)).advanceChorus P.dlCap

/-- CHORUS (rule R282). -/
def execChorus (s : State) : Result := whenReady s fun s => .next (chorus params s)

/-- The real-valued view of the left output: `OUTL / (2 * MIX_NORM)`, outside the hardware (rule R289). -/
noncomputable def leftReal (P : Params) (s : State) : ℝ := (s.outl.toInt : ℝ) / (2 * P.mixNorm)

/-- The real-valued view of the right output: `OUTR / (2 * MIX_NORM)`, outside the hardware (rule R289). -/
noncomputable def rightReal (P : Params) (s : State) : ℝ := (s.outr.toInt : ℝ) / (2 * P.mixNorm)

end Sys2Proof.Machine
end

