-- ==== Sys2Proof/Machine/Envelope.lean ====
section
/-! DEFINITION. Block `envelope_generator_4stage`: the seven sub-steps and their order (rules R170 to R184). -/

namespace Sys2Proof.Machine

/-- Step 1, idle to attack, taken on a rising edge (rule R173). -/
def egStep1 (P : Params) (o : OpRegs) : OpRegs :=
  { o with ea := P.eaInit, eax := P.eaInit, stage := .attack }

/-- Step 2, attack: add the attack rate, clamped at the maximum; the shaped value follows (rule R174). -/
def egStep2 (gate : Bool) (o : OpRegs) : OpRegs :=
  if gate = true ∧ o.ea.toNat < eaMax.toNat then
    let ea := BitVec.ofNat 20 (min (o.ea.toNat + o.ar.toNat) eaMax.toNat)
    { o with ea := ea, eax := ea }
  else o

/-- Step 3, attack to decay, on the `EA` step 2 has just written (rule R175). -/
def egStep3 (gate : Bool) (o : OpRegs) : OpRegs :=
  if gate = true ∧ o.ea = eaMax then { o with stage := .decay } else o

/-- Step 4, decay and sustain: subtract the decay rate, clamped at the sustain level, and shape (rule R177). The
subtraction stops at 0 here and at `EA_SUSTAIN` in the rule, which is the same after the `max`. -/
def egStep4 (P : Params) (gate : Bool) (o : OpRegs) : OpRegs :=
  if gate = true ∧ P.eaSustain.toNat < o.ea.toNat then
    let ea := BitVec.ofNat 20 (max (o.ea.toNat - o.dr.toNat) P.eaSustain.toNat)
    { o with ea := ea, eax := P.decayShape ea P.eaSustain }
  else o

/-- Step 5, release entry, taken on a falling edge: the snapshots and the stage code 0 (rule R180). -/
def egStep5 (o : OpRegs) : OpRegs :=
  { o with rs := o.ea, rsx := o.eax, rra := o.rr, stage := .idle }

/-- Steps 6 and 7, release and its guard: subtract in 20 bits, force 0 where the result wrapped above the previous
tick's accumulator, then shape (rules R181, R182). -/
def egStep6and7 (P : Params) (gate : Bool) (o : OpRegs) : OpRegs :=
  if gate = false ∧ 0 < o.ea.toNat then
    let raw := o.ea - o.rra
    let ea := if o.eao.toNat < raw.toNat then 0#20 else raw
    { o with ea := ea, eax := P.releaseShape ea o.rs o.rsx }
  else o

/-- `EAo <- EA`, at the end of every evaluation (rule R184). -/
def egStepLast (o : OpRegs) : OpRegs := { o with eao := o.ea }

/-- Step 1 where the gate rises (rule R172). -/
def egStart (P : Params) (gateOld gate : Bool) (o : OpRegs) : OpRegs :=
  if rising gateOld gate = true then egStep1 P o else o

/-- Step 5 where the gate falls (rule R172). -/
def egRelease (gateOld gate : Bool) (o : OpRegs) : OpRegs :=
  if falling gateOld gate = true then egStep5 o else o

/-- Steps 1 to 4 in the order of rule R172, on the stage as it stands after step 1. -/
def egGated (P : Params) (gateOld gate : Bool) (o : OpRegs) : OpRegs :=
  let o1 := egStart P gateOld gate o
  let o3 := if o1.stage = .attack then egStep3 gate (egStep2 gate o1) else o1
  if o1.stage = .decay ∨ (P.egDecaySameTick = true ∧ o3.stage = .decay) then egStep4 P gate o3 else o3

/-- `EGStep`: one evaluation of one operator's envelope (rule R172). -/
def egStep (P : Params) (gateOld gate : Bool) (o : OpRegs) : OpRegs :=
  egStepLast (egStep6and7 P gate (egRelease gateOld gate (egGated P gateOld gate o)))

end Sys2Proof.Machine
end

