-- ==== Sys2Proof/Machine/Lookup.lean ====
section
/-! DEFINITION. Blocks `log_sine_lut` and `exp_lut`: the functions `logSin` and `expOf` (rules R145, R146). -/

namespace Sys2Proof.Machine

/-- `logSin(p)`: the full-period logarithmic sine from the quarter-wave table, for any integer phase (rule R145). -/
def logSin (P : Params) (p : Int) : Nat :=
  let q : BitVec 10 := BitVec.ofInt 10 p
  let sign := q.getLsbD 9
  let mirror := q.getLsbD 8
  let low : BitVec 8 := q.extractLsb' 0 8
  let idx := if mirror then low ^^^ 0xFF#8 else low
  let r := (P.logsinRom idx).toNat
  if sign then r ||| P.mark else r

/-- `cpl(x) = -x - 1` (rule R15). -/
def cpl (x : Int) : Int := -x - 1

/-- `expOf(v)`: logarithmic to linear with sign, for any natural; both right shifts are floor shifts (rule R146). -/
def expOf (P : Params) (v : Nat) : Int :=
  let w : BitVec 16 := BitVec.ofNat 16 v
  let sign := w.getLsbD 15
  let m := (P.expRom (w.extractLsb' 0 8 ^^^ 0xFF#8)).toNat
  let t := (m ||| P.base) <<< 1
  let e := (w.extractLsb' 8 7).toNat
  let r : Int := ((t >>> e : Nat) : Int)
  (if sign then cpl r else r) >>> (4 : Nat)

end Sys2Proof.Machine
end

