-- ==== Sys2Proof/Machine/Network.lean ====
section
/-! DEFINITION. Blocks `phase_accumulator` and `fm_operator_network`: the phase and amplitude steps, one operator, the
four topologies, and the voice tick (rules R200 to R216). -/

namespace Sys2Proof.Machine

/-- `PhaseStep`: the accumulator advanced modulo 2^28, and its top ten bits (rule R201). -/
def phaseStep (o : OpRegs) : OpRegs :=
  let pa := o.pa + o.cw
  { o with pa := pa, pae := pa.extractLsb' 18 10 }

/-- `inv = not_12(EAx >> 8)` (rule R203). -/
def invLevel (eax : BitVec 20) : BitVec 12 := ~~~(eax.extractLsb' 8 12)

/-- `AmpStep`: `min(inv + EG + (VEL << 3), 4095)` (rule R203). -/
def ampStep (eg : BitVec 12) (vel : BitVec 7) (o : OpRegs) : OpRegs :=
  { o with amp := BitVec.ofNat 12 (min ((invLevel o.eax).toNat + eg.toNat + vel.toNat <<< 3) 4095) }

/-- An operator whose silent cut-off tests the attenuation `gateAmp`: `SILENT` at 4095, else the lookup chain at the
attenuation `amp` (rules R204, R205, R216). -/
def opEvalGated (P : Params) (gateAmp : BitVec 12) (ph : Int) (amp : BitVec 12) : Int :=
  if gateAmp = 4095#12 then P.silent else expOf P (logSin P ph + amp.toNat)

/-- `opEval(ph, amp)` (rules R204, R205). -/
def opEval (P : Params) (ph : Int) (amp : BitVec 12) : Int := opEvalGated P amp ph amp

/-- `PAE[i]` as an integer. -/
def Voice.phase (v : Voice) (i : OpIdx) : Int := ((v.op.get i).pae.toNat : Int)

/-- `AMP[i]`. -/
def Voice.amp (v : Voice) (i : OpIdx) : BitVec 12 := (v.op.get i).amp

/-- `Msold1`, signed (rule R25). -/
def Voice.old1 (v : Voice) : StackId → Int
  | .one => v.m1old1.toInt
  | .two => v.m2old1.toInt

/-- `Msold2`, signed (rule R25). -/
def Voice.old2 (v : Voice) : StackId → Int
  | .one => v.m1old2.toInt
  | .two => v.m2old2.toInt

/-- `off[s]` in a topology (rules R207 to R210), `other` being the other stack's modulator output, which only CROSS
reads. -/
def modOffset (mode : Mode) (old1 old2 other : Int) : Int :=
  match mode with
  | .norm => 0
  | .piHalf => (old1 + old2) >>> (4 : Nat)
  | .pi => (old1 + old2) >>> (3 : Nat)
  | .cross => other

/-- The attenuation the cut-off of stack `s`'s modulator tests: its own, but for the PI/2 anomaly of stack 2 where
`PI2_GATE_QUIRK` is set (rule R216). -/
def modGateAmp (P : Params) (mode : Mode) (v : Voice) : StackId → BitVec 12
  | .one => v.amp .m1
  | .two => if P.pi2GateQuirk = true ∧ mode = .piHalf then v.amp .c2 else v.amp .m2

/-- `M[s]` (rule R206). -/
def modOut (P : Params) (mode : Mode) (v : Voice) (st : StackId) (other : Int) : Int :=
  opEvalGated P (modGateAmp P mode v st) (v.phase (modulatorOf st) + modOffset mode (v.old1 st) (v.old2 st) other)
    (v.amp (modulatorOf st))

/-- `Modulators()`: `M[1]` and `M[2]` in the order of rule R211. Where the other stack's modulator is not yet computed
in this tick its output of the previous tick stands in; only stack 1 with both stacks in CROSS reads that. -/
def modulators (P : Params) (mode1 mode2 : Mode) (v : Voice) : Int × Int :=
  if mode1 = .cross ∧ mode2 ≠ .cross then
    let m2 := modOut P mode2 v .two (v.old1 .one)
    let m1 := modOut P mode1 v .one m2
    (m1, m2)
  else
    let m1 := modOut P mode1 v .one (v.old1 .two)
    let m2 := modOut P mode2 v .two m1
    (m1, m2)

/-- `C[s]`, the carrier offset by its own modulator in every topology (rule R212). -/
def carrierOut (P : Params) (v : Voice) (st : StackId) (m : Int) : Int :=
  opEval P (v.phase (carrierOf st) + m) (v.amp (carrierOf st))

/-- The history update (rule R213). -/
def pushHistory (m1 m2 : Int) (v : Voice) : Voice :=
  { v with m1old2 := v.m1old1, m1old1 := BitVec.ofInt 14 m1, m2old2 := v.m2old1, m2old1 := BitVec.ofInt 14 m2 }

/-- The voice sample `C[1] + C[2]` of rule R214, from the phases and attenuations of this tick. The rule holds it in 15
bits signed and states no result for a sum outside them, which only parameters other than the defaults give; that the
sum is then the exact integer is the model's choice (DESIGN CHOICE, log entry 14). -/
def networkSample (P : Params) (mode1 mode2 : Mode) (v : Voice) : Int :=
  let m := modulators P mode1 mode2 v
  carrierOut P v .one m.1 + carrierOut P v .two m.2

/-- What `Network()` writes: the history of the two modulators (rules R213, R214). -/
def networkHistory (P : Params) (mode1 mode2 : Mode) (v : Voice) : Voice :=
  let m := modulators P mode1 mode2 v
  pushHistory m.1 m.2 v

/-- The four envelope evaluations (rule R200). -/
def envelopes (P : Params) (v : Voice) : Voice := { v with op := v.op.map (egStep P v.gateOld v.gate) }

/-- The four phase steps (rule R200). -/
def phases (v : Voice) : Voice := { v with op := v.op.map phaseStep }

/-- The four amplitude steps (rule R200). -/
def amplitudes (v : Voice) : Voice :=
  { v with op := Quad.ofFn fun i => ampStep (v.eg.get i) v.vel (v.op.get i) }

/-- A voice as the network of this tick sees it: after the envelopes, the phases and the amplitudes (rule R200). -/
def prepared (P : Params) (v : Voice) : Voice := amplitudes (phases (envelopes P v))

/-- `VoiceTick(v)`: the voice after one TICK (rule R200). -/
def voiceTick (P : Params) (mode1 mode2 : Mode) (v : Voice) : Voice :=
  gateLatch (networkHistory P mode1 mode2 (prepared P v))

/-- The sample `VoiceTick(v)` returns (rule R200). -/
def voiceSample (P : Params) (mode1 mode2 : Mode) (v : Voice) : Int := networkSample P mode1 mode2 (prepared P v)

end Sys2Proof.Machine
end

