-- ==== Sys2Proof/Machine/Mixer.lean ====
section
/-! DEFINITION. Block `voice_pool_mixer`: TICK, and the real-valued view of `MIX`. -/

namespace Sys2Proof.Machine

/-- The integer sum of all 32 voice samples of this tick (rule R260). -/
def mixSum (P : Params) (s : State) : Int := (s.voices.toList.map (voiceSample P s.mode1 s.mode2)).sum

/-- TICK for any parameters: every voice advanced exactly once, `MIX` the sum of their samples (rule R260). -/
def tick (P : Params) (s : State) : State :=
  (s.mapVoice (voiceTick P s.mode1 s.mode2)).setMix (mixSum P s)

/-- TICK (rule R260). -/
def execTick (s : State) : Result := whenReady s fun s => .next (tick params s)

/-- The real-valued view of `MIX`: `MIX / MIX_NORM`, outside the hardware (rule R262). -/
noncomputable def mixReal (P : Params) (s : State) : ℝ := (s.mix.toInt : ℝ) / P.mixNorm

end Sys2Proof.Machine
end

