-- ==== Sys2Proof/Machine/System.lean ====
section
/-! DEFINITION. The commands that set the machine up: INIT, SELPATCH, SETMODE. -/

namespace Sys2Proof.Machine

/-- INIT (rule R149): `STATUS.READY <- 1`. It is the one command not subject to the `E_NOTABLES` check. -/
def execInit (s : State) : Result := unlessHalted s fun s => .next s.setReady

/-- SELPATCH `idx` for any parameters (rule R241). -/
def selpatch (P : Params) (idx : BitVec 8) (s : State) : State :=
  if patchSupported P idx = true then s.selectPatch idx else raiseFault .badPatch s

/-- SELPATCH (rule R241). -/
def execSelpatch (idx : BitVec 8) (s : State) : Result := whenReady s fun s => .next (selpatch params idx s)

/-- SETMODE (rule R253). -/
def execSetmode (stack : StackId) (mode : Mode) (s : State) : Result :=
  whenReady s fun s => .next (s.setModeOf stack mode)

end Sys2Proof.Machine
end

