-- ==== Sys2Proof/Machine/VoicePool.lean ====
section
/-! DEFINITION. The note commands: NOTEON, NOTEOFF, SUSTAIN. -/

namespace Sys2Proof.Machine

/-- The per-operator part of `ResetVoice` (rule R244). -/
def resetOp (o : OpRegs) : OpRegs :=
  { o with stage := .idle, ea := 0#20, eax := 0#20, eao := 0#20, rs := 0#20, rsx := 0#20, rra := 0#20,
           pa := 0#28, pae := 0#10, amp := 4095#12 }

/-- `ResetVoice(v)`: envelope, phase and feedback state to silence, the applied gates to 0; `sustaining` stays
(rule R244). -/
def resetVoice (v : Voice) : Voice :=
  { v with op := v.op.map resetOp, m1old1 := 0#14, m1old2 := 0#14, m2old1 := 0#14, m2old2 := 0#14,
           gate := false, gateOld := false }

/-- The per-operator part of `LoadKeyParams` (rule R245). -/
def loadOp (k : KeyParams) (o : OpRegs) : OpRegs := { o with cw := k.cw, ar := k.ar, dr := k.dr, rr := k.rr }

/-- `LoadKeyParams` with the key parameters `k` (rule R245). -/
def loadKeyParams (k : Quad KeyParams) (v : Voice) : Voice :=
  { v with eg := k.map KeyParams.eg, op := Quad.ofFn fun i => loadOp (k.get i) (v.op.get i) }

/-- What NOTEON makes of the voice it takes (rule R242). -/
def triggerVoice (k : Quad KeyParams) (note vel : BitVec 7) (v : Voice) : Voice :=
  { loadKeyParams k { resetVoice v with note := note, vel := vel, noteOn := true } with gateNew := true }

/-- NOTEON for any parameters: the two checks, then `Allocate` (rule R243), `ResetVoice`, `LoadKeyParams` and the gate
request (rule R242). -/
def noteon (P : Params) (note vel : BitVec 7) (s : State) : State :=
  if s.patchSel.v = false then raiseFault .badPatch s
  else if noteSupported P note = false then raiseFault .badNote s
  else
    let v := voiceIdx s.rridx
    (s.setRridx (s.rridx + 1#5)).setVoice v (triggerVoice (keyParam P s.patchSel.idx note) note vel (s.voice v))

/-- NOTEON (rule R242). -/
def execNoteon (note vel : BitVec 7) (s : State) : Result := whenReady s fun s => .next (noteon params note vel s)

/-- NOTEOFF for any parameters (rule R251). -/
def noteoff (P : Params) (note : BitVec 7) (s : State) : State :=
  if noteSupported P note = false then raiseFault .badNote s else s.mapVoice (releaseFlags note)

/-- NOTEOFF (rule R251). -/
def execNoteoff (note : BitVec 7) (s : State) : Result := whenReady s fun s => .next (noteoff params note s)

/-- SUSTAIN (rule R252). -/
def execSustain (down : Bool) (s : State) : Result := whenReady s fun s => .next (s.mapVoice (pedalFlags down))

end Sys2Proof.Machine
end

