-- ==== Sys2Proof/Machine/Dispatch.lean ====
section
/-! DEFINITION. One arm for each command. -/

namespace Sys2Proof.Machine

def exec (i : Instr) (s : State) : Host.Outcome State Fault Refusal :=
  match i with
  | .init => Sys2Proof.Machine.execInit s
  | .selpatch idx => Sys2Proof.Machine.execSelpatch idx s
  | .noteon note vel => Sys2Proof.Machine.execNoteon note vel s
  | .noteoff note => Sys2Proof.Machine.execNoteoff note s
  | .sustain down => Sys2Proof.Machine.execSustain down s
  | .tick => Sys2Proof.Machine.execTick s
  | .chorus => Sys2Proof.Machine.execChorus s
  | .setmode stack mode => Sys2Proof.Machine.execSetmode stack mode s

end Sys2Proof.Machine
end

