-- ==== Sys2Proof/Machine/HostPort.lean ====
section
/-! DEFINITION. The host's side of the hardware: the read port (rule R37) and the order in which inputs are
presented (rules R10, R335). -/

namespace Sys2Proof.Machine

/-- The registers the host can read; no other state has a port (rules R36, R37). -/
inductive HostReg where
  | status | cause | mix | outl | outr
deriving DecidableEq, Repr

/-- The width of a host register (rules R29, R32). -/
def hostWidth : HostReg → Nat
  | .status => 2
  | .cause => 3
  | .mix => 18
  | .outl => 20
  | .outr => 20

/-- A read of the host port: the value left by the last completed command, with no side effect (rule R37). -/
def hostRead (s : State) : (r : HostReg) → BitVec (hostWidth r)
  | .status => statusWord s.status
  | .cause => s.cause
  | .mix => s.mix
  | .outl => s.outl
  | .outr => s.outr

/-- The next input in arrival order and the state without it; none where the host presents nothing (rule R10). -/
def nextInput (s : State) : Option (PortInput × State) :=
  match s.port with
  | [] => none
  | x :: rest => some (x, s.setPort rest)

/-- The state in which the host presents `x` before its other inputs. -/
def presentFirst (x : PortInput) (s : State) : State := s.setPort (x :: s.port)

end Sys2Proof.Machine
end

