-- ==== Sys2Proof/Machine/Step.lean ====
section
/-! DEFINITION. One step: the next input the host presents, executed atomically and to completion (rules R10, R120). -/

namespace Sys2Proof.Machine

/-- One step. The reset input resets the machine (rule R330); a word is decoded and run, or raises `E_ILLEGAL` (rule
R120); with no input presented nothing happens (rule R306; log entry 2). -/
def step (s : State) : Host.Outcome State Fault Refusal :=
  match nextInput s with
  | none => .next s
  | some (.reset, s') => .next (resetInput s')
  | some (.word w, s') =>
    match decode w with
    | .ok i => exec i s'
    | .error _ => illegalWord s'

/-- `s` with an opcode-table word of `nbits` bits presented next on the command port (log entry 3). -/
def State.withFetchWord (s : State) (nbits w : Nat) : State := presentFirst (.word (tableWord nbits w)) s

end Sys2Proof.Machine
end

