-- ==== Sys2Proof/Safety.lean ====
section
/-! DEFINITION. What counts as a safe run, what a configuration owes its rules, and the invariants of the machine, in
the terms the statements use. -/

namespace Sys2Proof.Machine

/-- The machine executes commands: no fault is recorded and INIT has run (rule R240's standing assumption). -/
abbrev State.Running (s : State) : Prop := s.status.fault = false ∧ s.status.ready = true

/-- A fault is recorded: every word is ignored until reset (rule R304). -/
abbrev State.Halted (s : State) : Prop := s.status.fault = true

/-- A safe run of `n` steps: no fault is recorded at its start or after any of its steps. A faulted state is never a
final one (rule R304): a claim about a command sequence takes this as a premise or proves it. -/
def SafeRun : Nat → State → Prop
  | 0, s => s.status.fault = false
  | n + 1, s => s.status.fault = false ∧ ∃ t, step s = .next t ∧ SafeRun n t

/-- What the spec requires of every instantiation of the parameters that its types do not already say: a key range and
a patch count the operands can hold, no record at `NPATCH` and above (rules R12, R84), a `DL_CAP` that the 6-bit `WP`
and the longest delay agree on (rules R33, R284), the key parameters (rules R247 to R250), shapes that are
non-decreasing in `EA` and a release shape that ends in silence (rules R179, R183). -/
structure ParamsLegal (P : Params) : Prop where
  keys : P.keyLo ≤ P.keyHi ∧ P.keyHi ≤ 127
  npatch_le : P.npatch ≤ 256
  patch_none : ∀ idx : BitVec 8, P.npatch ≤ idx.toNat → P.patchMem idx = none
  dl_cap : P.dlCap = 64
  key : KeyLegal P.eaInit P.patchMem P.key
  decay_mono : ∀ sl x y, x.toNat ≤ y.toNat → (P.decayShape x sl).toNat ≤ (P.decayShape y sl).toNat
  release_mono : ∀ rs rsx x y, x.toNat ≤ y.toNat →
    (P.releaseShape x rs rsx).toNat ≤ (P.releaseShape y rs rsx).toNat
  release_zero : ∀ rs rsx, P.releaseShape 0#20 rs rsx = 0#20

/-- Every delay line is in canonical form. -/
def State.MemoryWf (s : State) : Prop := ∀ k, (s.dl.line k).wf = true

/-- The three lines hold the same contents (rule R290). -/
def State.LinesEqual (s : State) : Prop := s.dl.a = s.dl.b ∧ s.dl.b = s.dl.c

/-- `CAUSE` is 0 exactly when `FAULT` is 0, and never a code above 4 (rules R29, R301; 93_implementation_defined.md
U10). -/
def State.FaultRecorded (s : State) : Prop := (s.status.fault = false ↔ s.cause = 0#3) ∧ s.cause.toNat ≤ 4

/-- `sustaining` is the same in every voice (rule R244). -/
def State.PedalUniform (s : State) : Prop := ∀ v w : Fin 32, (s.voice v).sustaining = (s.voice w).sustaining

/-- A selected patch is a supported one (rules R30, R241). -/
def State.PatchSelected (s : State) : Prop := s.patchSel.v = true → patchSupported params s.patchSel.idx = true

/-- What holds of an operator's envelope between ticks: `EAo` is `EA` (rule R186); a zero accumulator has a zero shaped
value (the silence rule R181 keeps); with `GATEOLD` low the stage is idle (rule R173's "in every reachable case"); in
the idle stage the accumulator is at most its snapshot (rule R183's "in every reachable case"); in attack the shaped
value is the accumulator (rule R174). -/
structure OpRegs.EnvelopeOk (gateOld : Bool) (o : OpRegs) : Prop where
  eao_eq : o.eao = o.ea
  silent : o.ea = 0#20 → o.eax = 0#20
  idle_of_low : gateOld = false → o.stage = .idle
  below_snapshot : o.stage = .idle → o.ea.toNat ≤ o.rs.toNat
  linear_attack : o.stage = .attack → o.eax = o.ea

/-- Every envelope of every voice is as `OpRegs.EnvelopeOk` says. -/
def State.EnvelopesOk (s : State) : Prop :=
  ∀ (v : Fin 32) (i : OpIdx), ((s.voice v).op.get i).EnvelopeOk (s.voice v).gateOld

/-- Every visible phase is the top ten bits of its accumulator (rules R23, R201). -/
def State.PhasesOk (s : State) : Prop :=
  ∀ (v : Fin 32) (i : OpIdx), ((s.voice v).op.get i).pae = ((s.voice v).op.get i).pa.extractLsb' 18 10

/-- A modulator or carrier output is in [-256, 255] (rules R147, R217). -/
abbrev inStackRange (x : Int) : Prop := -256 ≤ x ∧ x ≤ 255

/-- A sum of 32 voice samples is in [-16384, 16320] (rule R261). -/
abbrev inMixRange (x : Int) : Prop := -16384 ≤ x ∧ x ≤ 16320

/-- A chorus output is in [-49152, 48960] (rule R285). -/
abbrev inOutRange (x : Int) : Prop := -49152 ≤ x ∧ x ≤ 48960

/-- The computed ranges: the history registers, `MIX`, every element of every delay line, `OUTL` and `OUTR` (rules
R217, R261, R285). -/
structure State.RangesOk (s : State) : Prop where
  history : ∀ v : Fin 32, inStackRange (s.voice v).m1old1.toInt ∧ inStackRange (s.voice v).m1old2.toInt ∧
    inStackRange (s.voice v).m2old1.toInt ∧ inStackRange (s.voice v).m2old2.toInt
  mix : inMixRange s.mix.toInt
  lines : ∀ k a, inMixRange (Memory.read (s.dl.line k) a).toInt
  outl : inOutRange s.outl.toInt
  outr : inOutRange s.outr.toInt

end Sys2Proof.Machine
end

