-- ==== Sys2Proof/Certificates/Slice0/Obligations.lean ====
section
/-! DEFINITION. The statements for the provers. Each cites the rules of spec/ it formalises. -/

open Sys2Proof Sys2Proof.Machine

/-! ### Encoding -/

/-- Rule R113 with the operand fields of rule R112 and the mode values of rule R119: a word is the named command
exactly when `(W & mask) = match`, and its operands are the named bits. -/
def Obligations.DecodeFollowsOpcodeMap : Prop :=
  (∀ w : Word,
    (decode w = .ok .init ↔ w &&& 0xFFFFFFFF#32 = 0x10000000#32) ∧
    (∀ idx, decode w = .ok (.selpatch idx) ↔ w &&& 0xFFFFFF00#32 = 0x20000000#32 ∧ idx.toNat = w.toNat % 256) ∧
    (∀ n v, decode w = .ok (.noteon n v) ↔
      w &&& 0xFFFF8080#32 = 0x30000000#32 ∧ n.toNat = w.toNat / 256 % 128 ∧ v.toNat = w.toNat % 128) ∧
    (∀ n, decode w = .ok (.noteoff n) ↔ w &&& 0xFFFF80FF#32 = 0x40000000#32 ∧ n.toNat = w.toNat / 256 % 128) ∧
    (∀ d, decode w = .ok (.sustain d) ↔ w &&& 0xFFFFFFFE#32 = 0x50000000#32 ∧ d.toNat = w.toNat % 2) ∧
    (decode w = .ok .tick ↔ w &&& 0xFFFFFFFF#32 = 0x60000000#32) ∧
    (decode w = .ok .chorus ↔ w &&& 0xFFFFFFFF#32 = 0x70000000#32) ∧
    (∀ st m, decode w = .ok (.setmode st m) ↔
      w &&& 0xFFFFFEFC#32 = 0x80000000#32 ∧ (stackBit st).toNat = w.toNat / 256 % 2 ∧
        (modeBits m).toNat = w.toNat % 4)) ∧
  stackBit .one = 0#1 ∧ stackBit .two = 1#1 ∧
  modeBits .norm = 0#2 ∧ modeBits .piHalf = 1#2 ∧ modeBits .pi = 2#2 ∧ modeBits .cross = 3#2

/-- Decode and encode agree: the encoded word of every command decodes to it (rules R112, R113). -/
def Obligations.DecodeOfEncode : Prop := ∀ i : Instr, decode (encode i) = .ok i

/-- Each word has one meaning: a word that decodes is the encoding of what it decodes to (rules R112 to R114). -/
def Obligations.EncodeOfDecode : Prop := ∀ (w : Word) (i : Instr), decode w = .ok i → encode i = w

/-- Some words of 95_test_vectors.md T8, written out from rule R113. -/
def Obligations.SampleWordsDecode : Prop :=
  decode 0x10000000#32 = .ok .init ∧ decode 0x20000001#32 = .ok (.selpatch 1#8) ∧
  decode 0x30003064#32 = .ok (.noteon 48#7 100#7) ∧ decode 0x40003000#32 = .ok (.noteoff 48#7) ∧
  decode 0x50000001#32 = .ok (.sustain true) ∧ decode 0x60000000#32 = .ok .tick ∧
  decode 0x70000000#32 = .ok .chorus ∧ decode 0x80000103#32 = .ok (.setmode .two .cross) ∧
  decode 0x00000000#32 = .error .opcode ∧ decode 0x10010000#32 = .error .reserved ∧
  decode 0x30008000#32 = .error .operandBits

/-- Rule R114: a word that matches no row of rule R113 is illegal, and executing it raises `E_ILLEGAL` and changes
nothing else (the queue of inputs is the model's, log entry 1); and the words rule R114 names (by `OPC`, by `RSV`, by the must-be-0 bits of rule R112) match no row. -/
def Obligations.IllegalWordRaisesIllegal : Prop :=
  (∀ (s : State) (w : Word) (rest : List PortInput), s.port = .word w :: rest → s.status.fault = false →
    (∀ r ∈ opcodeRows, w &&& r.mask ≠ r.value) →
    step s = .next { s with port := rest, status := ⟨s.status.ready, true⟩, cause := 4#3 }) ∧
  (∀ w : Word,
    (w.toNat / 2 ^ 28 = 0 ∨ 9 ≤ w.toNat / 2 ^ 28 ∨ w.toNat / 2 ^ 16 % 2 ^ 12 ≠ 0 ∨
     ((w.toNat / 2 ^ 28 = 1 ∨ w.toNat / 2 ^ 28 = 6 ∨ w.toNat / 2 ^ 28 = 7) ∧ w.toNat % 2 ^ 16 ≠ 0) ∨
     (w.toNat / 2 ^ 28 = 2 ∧ w.toNat / 2 ^ 8 % 2 ^ 8 ≠ 0) ∨
     (w.toNat / 2 ^ 28 = 3 ∧ (w.toNat / 2 ^ 15 % 2 ≠ 0 ∨ w.toNat / 2 ^ 7 % 2 ≠ 0)) ∨
     (w.toNat / 2 ^ 28 = 4 ∧ (w.toNat / 2 ^ 15 % 2 ≠ 0 ∨ w.toNat % 2 ^ 8 ≠ 0)) ∨
     (w.toNat / 2 ^ 28 = 5 ∧ w.toNat / 2 % 2 ^ 15 ≠ 0) ∨
     (w.toNat / 2 ^ 28 = 8 ∧ (w.toNat / 2 ^ 9 % 2 ^ 7 ≠ 0 ∨ w.toNat / 2 ^ 2 % 2 ^ 6 ≠ 0))) →
    ∀ r ∈ opcodeRows, w &&& r.mask ≠ r.value)

/-- Rules R117 and R118: the words of the assembler's lines and pseudo-commands; a line whose operand does not fit
its field (rule R112) has none. -/
def Obligations.AssemblerWords : Prop :=
  AsmLine.assemble .init = some [0x10000000#32] ∧ AsmLine.assemble .tick = some [0x60000000#32] ∧
  AsmLine.assemble .chorus = some [0x70000000#32] ∧
  (∀ idx, AsmLine.assemble (.selpatch idx) =
    if idx < 256 then some [BitVec.ofNat 32 (0x20000000 ||| idx)] else none) ∧
  (∀ note vel, AsmLine.assemble (.noteon note vel) =
    if note < 128 ∧ vel < 128 then some [BitVec.ofNat 32 (0x30000000 ||| (note <<< 8) ||| vel)] else none) ∧
  (∀ note, AsmLine.assemble (.noteoff note) =
    if note < 128 then some [BitVec.ofNat 32 (0x40000000 ||| (note <<< 8))] else none) ∧
  (∀ down, AsmLine.assemble (.sustain down) =
    if down < 2 then some [BitVec.ofNat 32 (0x50000000 ||| down)] else none) ∧
  (∀ stack mode, AsmLine.assemble (.setmode stack mode) =
    if (stack = 1 ∨ stack = 2) ∧ mode < 4 then
      some [BitVec.ofNat 32 (0x80000000 ||| ((stack - 1) <<< 8) ||| mode)] else none) ∧
  AsmLine.assemble .suson = AsmLine.assemble (.sustain 1) ∧
  AsmLine.assemble .susoff = AsmLine.assemble (.sustain 0) ∧
  AsmLine.assemble .render = some [0x60000000#32, 0x70000000#32] ∧
  (∀ n, AsmLine.assemble (.ticks n) = some (List.replicate n 0x60000000#32))

/-! ### The step, reset, faults and the host's ports -/

/-- A step runs the decoded command: where the host presents a word that decodes, the step is that command run on the
state with the word consumed; where it presents nothing, nothing happens (rules R10, R120, R306; the queue of inputs
is the model's choice, log entries 1 and 2). -/
def Obligations.StepRunsDecodedCommand : Prop :=
  (∀ (s : State) (w : Word) (rest : List PortInput) (i : Instr), s.port = .word w :: rest → decode w = .ok i →
    step s = exec i { s with port := rest }) ∧
  (∀ s : State, s.port = [] → step s = .next s)

/-- Rule R38: the value of every piece of state after reset. -/
def Obligations.ResetGivesStatedValues : Prop :=
  (∀ v : Fin 32, State.reset.voice v =
    { note := 0#7, vel := 0#7, noteOn := false, sustaining := false, gateNew := false, gate := false,
      gateOld := false, m1old1 := 0#14, m1old2 := 0#14, m2old1 := 0#14, m2old2 := 0#14,
      eg := ⟨0#12, 0#12, 0#12, 0#12⟩,
      op := Quad.ofFn fun _ =>
        { stage := .idle, ea := 0#20, eax := 0#20, eao := 0#20, rs := 0#20, rsx := 0#20, ar := 0#20, dr := 0#20,
          rr := 0#20, rra := 0#20, pa := 0#28, pae := 0#10, cw := 0#28, amp := 4095#12 } }) ∧
  State.reset.rridx = 0#5 ∧ State.reset.status = ⟨false, false⟩ ∧ State.reset.cause = 0#3 ∧
  State.reset.patchSel = ⟨false, 0#8⟩ ∧ State.reset.mode1 = .norm ∧ State.reset.mode2 = .norm ∧
  State.reset.mix = 0#18 ∧ State.reset.outl = 0#20 ∧ State.reset.outr = 0#20 ∧
  (∀ k a, Memory.read (State.reset.dl.line k) a = 0#18) ∧ State.reset.wp = 0#6 ∧ State.reset.chtick = 0#16

/-- Rules R330 and R305: the reset input puts every piece of state at its reset value whatever the state was, and
nothing else clears a recorded fault or changes its cause. The inputs not yet presented are the model's own field and
stay (log entries 1 and 15). -/
def Obligations.OnlyResetClearsAFault : Prop :=
  (∀ (s : State) (rest : List PortInput), s.port = .reset :: rest →
    step s = .next { State.reset with port := rest }) ∧
  (∀ s t : State, step s = .next t → s.Halted → (∀ rest, s.port ≠ .reset :: rest) →
    t.status.fault = true ∧ t.cause = s.cause)

/-- Rule R304: while a fault is recorded every word, legal or not, is ignored, and no state changes but the queue of
inputs, which loses the word (log entries 1 and 11). -/
def Obligations.HaltIgnoresEveryWord : Prop :=
  (∀ (s : State) (w : Word) (rest : List PortInput), s.Halted → s.port = .word w :: rest →
    step s = .next { s with port := rest }) ∧
  (∀ (i : Instr) (s : State), s.Halted → exec i s = .next s)

/-- Rule R303: a command that records a fault changes `STATUS.FAULT` and `CAUSE` and nothing else. -/
def Obligations.FaultEntryIsPrecise : Prop :=
  ∀ (i : Instr) (s t : State), exec i s = .next t → s.status.fault = false → t.status.fault = true →
    ∃ c : Cause, t = { s with status := ⟨s.status.ready, true⟩, cause := causeCode c }

/-- Rules R301 and R302: which cause a presented word records, in the order illegal, tables, patch, note; exactly one
is recorded, and none where none applies. -/
def Obligations.FaultPriority : Prop :=
  ∀ (s t : State) (w : Word) (rest : List PortInput), s.port = .word w :: rest → s.status.fault = false →
    s.cause = 0#3 → step s = .next t →
    ((∀ i, decode w ≠ .ok i) → t.status.fault = true ∧ t.cause = 4#3) ∧
    (∀ i, decode w = .ok i →
      (i ≠ .init → s.status.ready = false → t.status.fault = true ∧ t.cause = 1#3) ∧
      (i = .init → t.status.fault = false ∧ t.cause = 0#3) ∧
      (s.status.ready = true →
        (∀ idx, i = .selpatch idx →
          (params.npatch ≤ idx.toNat ∨ params.patchMem idx = none → t.status.fault = true ∧ t.cause = 2#3) ∧
          (idx.toNat < params.npatch → params.patchMem idx ≠ none → t.status.fault = false ∧ t.cause = 0#3)) ∧
        (∀ note vel, i = .noteon note vel →
          (s.patchSel.v = false → t.status.fault = true ∧ t.cause = 2#3) ∧
          (s.patchSel.v = true → note.toNat < params.keyLo ∨ params.keyHi < note.toNat →
            t.status.fault = true ∧ t.cause = 3#3) ∧
          (s.patchSel.v = true → params.keyLo ≤ note.toNat → note.toNat ≤ params.keyHi →
            t.status.fault = false ∧ t.cause = 0#3)) ∧
        (∀ note, i = .noteoff note →
          (note.toNat < params.keyLo ∨ params.keyHi < note.toNat → t.status.fault = true ∧ t.cause = 3#3) ∧
          (params.keyLo ≤ note.toNat → note.toNat ≤ params.keyHi → t.status.fault = false ∧ t.cause = 0#3)) ∧
        ((∃ d, i = .sustain d) ∨ i = .tick ∨ i = .chorus ∨ (∃ st m, i = .setmode st m) →
          t.status.fault = false ∧ t.cause = 0#3)))

/-- Every command and every step answers a next state. That a halted machine answers its own state, where
93_implementation_defined.md U8 suggests no next state, is the model's reading of rule R304 (log entry 11); that a step
with nothing presented answers the same state is the model's choice (log entry 2). -/
def Obligations.EveryCommandAnswers : Prop :=
  (∀ (i : Instr) (s : State), ∃ t, exec i s = .next t) ∧ (∀ s : State, ∃ t, step s = .next t)

/-- Rules R29 and R37: what the host port shows. -/
def Obligations.HostPortShows : Prop :=
  ∀ s : State,
    ((hostRead s .status).getLsbD 0 = s.status.ready ∧ (hostRead s .status).getLsbD 1 = s.status.fault) ∧
    hostRead s .cause = s.cause ∧ hostRead s .mix = s.mix ∧ hostRead s .outl = s.outl ∧ hostRead s .outr = s.outr

/-! ### INIT, SELPATCH, SETMODE -/

/-- Rule R149: INIT sets `STATUS.READY`, a second INIT changes nothing, and every other command before INIT raises
`E_NOTABLES`. -/
def Obligations.InitMarksTablesUsable : Prop :=
  (∀ s : State, s.status.fault = false → exec .init s = .next { s with status := ⟨true, false⟩ }) ∧
  (∀ s : State, s.Running → exec .init s = .next s) ∧
  (∀ (i : Instr) (s : State), i ≠ .init → s.status.fault = false → s.status.ready = false →
    exec i s = .next { s with status := ⟨false, true⟩, cause := 1#3 })

/-- Rule R241: SELPATCH selects a supported patch and raises `E_BADPATCH` for any other index. -/
def Obligations.SelpatchSelectsSupportedPatch : Prop :=
  ∀ (s : State) (idx : BitVec 8), s.Running →
    (idx.toNat < params.npatch → params.patchMem idx ≠ none →
      exec (.selpatch idx) s = .next { s with patchSel := ⟨true, idx⟩ }) ∧
    (params.npatch ≤ idx.toNat ∨ params.patchMem idx = none →
      exec (.selpatch idx) s = .next { s with status := ⟨true, true⟩, cause := 2#3 })

/-- Rule R253: SETMODE writes the mode of one stack. -/
def Obligations.SetmodeWritesOneMode : Prop :=
  ∀ (s : State) (m : Mode), s.Running →
    exec (.setmode .one m) s = .next { s with mode1 := m } ∧
    exec (.setmode .two m) s = .next { s with mode2 := m }

/-! ### NOTEON, NOTEOFF, SUSTAIN -/

/-- Rules R242 to R245: NOTEON faults with no patch selected, then with a note outside the key range, before any
write; else it takes the voice `RRIDX` names, resets it, loads the key parameters and raises the gate request, and
advances `RRIDX`. -/
def Obligations.NoteonTriggersNextVoice : Prop :=
  ∀ (s : State) (note vel : BitVec 7), s.Running →
    (s.patchSel.v = false →
      exec (.noteon note vel) s = .next { s with status := ⟨true, true⟩, cause := 2#3 }) ∧
    (s.patchSel.v = true → note.toNat < params.keyLo ∨ params.keyHi < note.toNat →
      exec (.noteon note vel) s = .next { s with status := ⟨true, true⟩, cause := 3#3 }) ∧
    (s.patchSel.v = true → params.keyLo ≤ note.toNat → note.toNat ≤ params.keyHi →
      ∃ t, exec (.noteon note vel) s = .next t ∧
        t = { s with voices := t.voices, rridx := BitVec.ofNat 5 ((s.rridx.toNat + 1) % 32) } ∧
        (∀ w : Fin 32, w ≠ voiceIdx s.rridx → t.voice w = s.voice w) ∧
        t.voice (voiceIdx s.rridx) =
          { note := note, vel := vel, noteOn := true,
            sustaining := (s.voice (voiceIdx s.rridx)).sustaining,
            gateNew := true, gate := false, gateOld := false,
            m1old1 := 0#14, m1old2 := 0#14, m2old1 := 0#14, m2old2 := 0#14,
            eg := Quad.ofFn fun i => ((keyParam params s.patchSel.idx note).get i).eg,
            op := Quad.ofFn fun i =>
              { stage := .idle, ea := 0#20, eax := 0#20, eao := 0#20, rs := 0#20, rsx := 0#20, rra := 0#20,
                ar := ((keyParam params s.patchSel.idx note).get i).ar,
                dr := ((keyParam params s.patchSel.idx note).get i).dr,
                rr := ((keyParam params s.patchSel.idx note).get i).rr,
                cw := ((keyParam params s.patchSel.idx note).get i).cw,
                pa := 0#28, pae := 0#10, amp := 4095#12 } })

/-- Rule R251: NOTEOFF faults on a note outside the key range; else every voice that holds the note loses `noteOn`, and
its gate request too unless the pedal sustains it. -/
def Obligations.NoteoffReleasesHolders : Prop :=
  ∀ (s : State) (note : BitVec 7), s.Running →
    (note.toNat < params.keyLo ∨ params.keyHi < note.toNat →
      exec (.noteoff note) s = .next { s with status := ⟨true, true⟩, cause := 3#3 }) ∧
    (params.keyLo ≤ note.toNat → note.toNat ≤ params.keyHi →
      ∃ t, exec (.noteoff note) s = .next t ∧ t = { s with voices := t.voices } ∧
        ∀ v : Fin 32, t.voice v =
          if (s.voice v).noteOn = true ∧ (s.voice v).note = note then
            { s.voice v with
                noteOn := false
                gateNew := if (s.voice v).sustaining = false then false else (s.voice v).gateNew }
          else s.voice v)

/-- Rule R252: SUSTAIN gives every voice the pedal's position; pedal up lowers the gate request of a voice that is not
held. -/
def Obligations.SustainMovesEveryPedal : Prop :=
  ∀ (s : State) (down : Bool), s.Running →
    ∃ t, exec (.sustain down) s = .next t ∧ t = { s with voices := t.voices } ∧
      ∀ v : Fin 32, t.voice v =
        { s.voice v with
            sustaining := down
            gateNew := if down = false ∧ (s.voice v).noteOn = false then false else (s.voice v).gateNew }

/-- Rule R243 and property S5: in a run of successful NOTEONs the k-th takes voice `(RRIDX + k) mod 32`, so that the
33rd takes the first one's voice again. -/
def Obligations.AllocationIsRoundRobin : Prop :=
  ∀ (keys : List (BitVec 7 × BitVec 7)) (s : State), s.Running → s.patchSel.v = true →
    (∀ k ∈ keys, params.keyLo ≤ k.1.toNat ∧ k.1.toNat ≤ params.keyHi) →
    ∃ t, keys.foldlM (m := Option) (fun u k =>
        match exec (.noteon k.1 k.2) u with
        | .next u' => some u'
        | _ => none) s = some t ∧
      t.Running ∧ t.rridx.toNat = (s.rridx.toNat + keys.length) % 32 ∧
      ∀ (j : Nat) (h : j < keys.length), keys.length ≤ j + 32 →
        (t.voice ⟨(s.rridx.toNat + j) % 32, Nat.mod_lt _ (by omega)⟩).note = keys[j].1

/-- Rule R248: `CW[i] = round(2^28 / (FS_INTERNAL / f[i])) mod 2^28` with `f[i] = BASE_FREQ(note) * DETUNE(cents) *
ratio`, rounded to the nearest integer, halves away from zero, for every legal instantiation of the open parameters and
a frequency other than 0. `DETUNE(c) = 2^(c / 1200)` is from general knowledge (log entry 20). -/
def Obligations.ControlWordIsRoundedQuotient : Prop :=
  ∀ (P : Params) (idx : BitVec 8) (rec : PatchConfig) (i : OpIdx) (note : BitVec 7) (f x : ℝ),
    KeyLegal P.eaInit P.patchMem P.key → P.patchMem idx = some rec →
    f = (P.key.baseFreq note : ℝ) * (2 : ℝ) ^ (rec.detuneCents.get i / 1200) * rec.ratio.get i →
    f ≠ 0 → x = 2 ^ 28 / ((P.key.fsInternal : ℝ) / f) →
      ∃ r : Int, ((keyParam P idx note).get i).cw = BitVec.ofInt 28 r ∧ |x - (r : ℝ)| ≤ 1 / 2 ∧
        (|x - (r : ℝ)| = 1 / 2 → |x| < |(r : ℝ)|)

/-- Rule R250: this machine's open parameters are legal; a NOTEON loads the rates `ENV_RATES` gives for the selected
record, and `AR` is at least 1; and in every legal instantiation the rates of `KEYPARAM` are those of `ENV_RATES`, do
not fall as the note rises, and are, at every note, base rates multiplied by one linear function of the note, rounded to
an integer and clamped to the range of a rate; where that function is positive the attack lasts `attackTime / scale`
ticks up to the rounding (the reading of "(± rounding)" and of what the scale multiplies is log entry 4). -/
def Obligations.EnvelopeRatesRiseWithTheNote : Prop :=
  KeyLegal params.eaInit params.patchMem params.key ∧
  (∀ (s : State) (note vel : BitVec 7) (rec : PatchConfig) (i : OpIdx), s.Running → s.patchSel.v = true →
    params.keyLo ≤ note.toNat → note.toNat ≤ params.keyHi → params.patchMem s.patchSel.idx = some rec →
    ∃ t, exec (.noteon note vel) s = .next t ∧
      ((t.voice (voiceIdx s.rridx)).op.get i).ar = (params.key.envRates rec i note).ar ∧
      ((t.voice (voiceIdx s.rridx)).op.get i).dr = (params.key.envRates rec i note).dr ∧
      ((t.voice (voiceIdx s.rridx)).op.get i).rr = (params.key.envRates rec i note).rr ∧
      1 ≤ ((t.voice (voiceIdx s.rridx)).op.get i).ar.toNat) ∧
  ∀ (P : Params) (idx : BitVec 8) (rec : PatchConfig) (i : OpIdx),
    KeyLegal P.eaInit P.patchMem P.key → P.patchMem idx = some rec →
    (∀ n, ((keyParam P idx n).get i).ar = (P.key.envRates rec i n).ar ∧
      ((keyParam P idx n).get i).dr = (P.key.envRates rec i n).dr ∧
      ((keyParam P idx n).get i).rr = (P.key.envRates rec i n).rr ∧ 1 ≤ ((keyParam P idx n).get i).ar.toNat) ∧
    (∀ m n : BitVec 7, m.toNat ≤ n.toNat →
      ((keyParam P idx m).get i).ar.toNat ≤ ((keyParam P idx n).get i).ar.toNat ∧
      ((keyParam P idx m).get i).dr.toNat ≤ ((keyParam P idx n).get i).dr.toNat ∧
      ((keyParam P idx m).get i).rr.toNat ≤ ((keyParam P idx n).get i).rr.toNat) ∧
    ∃ slope offset decayRate releaseRate : ℝ, ∀ (n : BitVec 7) (scale ar span : ℝ),
      scale = slope * n.toNat + offset → ar = ((keyParam P idx n).get i).ar.toNat →
      span = 0xFFFFF - (P.eaInit.toNat : ℝ) →
      RoundedRate 1 (span * scale) (rec.attackTime.get i) ((keyParam P idx n).get i).ar ∧
      RoundedRate 0 (decayRate * scale) 1 ((keyParam P idx n).get i).dr ∧
      RoundedRate 0 (releaseRate * scale) 1 ((keyParam P idx n).get i).rr ∧
      (0 < scale → 0 < rec.attackTime.get i →
        (ar < 0xFFFFF → span / (ar + 1) < rec.attackTime.get i / scale) ∧
        (1 < ar → rec.attackTime.get i / scale < span / (ar - 1)))

/-- Rule R249: the curve index, stage one of the remap over the real entries of the curve, and the clamp of the scaling
constant, for every legal instantiation of the open parameters. -/
def Obligations.ScalingConstantIsRemapped : Prop :=
  (∀ note : BitVec 7, (curveIndex note).val = if note.toNat ≤ 86 then note.toNat / 2 + 2 else 45) ∧
  (∀ (P : Params) (idx : BitVec 8) (rec : PatchConfig) (i : OpIdx) (note : BitVec 7) (lo hi c : ℝ),
    KeyLegal P.eaInit P.patchMem P.key → P.patchMem idx = some rec → lo = (rec.curve.get i)[0] →
    hi = (rec.curve.get i)[1] → c = (rec.curve.get i)[curveIndex note] →
    ∃ x : ℝ, (hi = lo → x = 0) ∧
      (hi ≠ lo → ((c - lo) / (hi - lo) ≤ 0 → x = 0) ∧ (1 ≤ (c - lo) / (hi - lo) → x = 1) ∧
        (0 ≤ (c - lo) / (hi - lo) → (c - lo) / (hi - lo) ≤ 1 → x = (c - lo) / (hi - lo))) ∧
      (((keyParam P idx note).get i).eg.toNat : Int) = min (max (P.key.egStage2 x) 0) 4095)

/-! ### The lookup tables -/

/-- Rule R145: `logSin` at every integer phase, quarter by quarter of its period. -/
def Obligations.LogSinQuarters : Prop :=
  ∀ (p : Int) (q : Nat), (q : Int) = p % 1024 →
    logSin params p =
      if q < 256 then (params.logsinRom (BitVec.ofNat 8 q)).toNat
      else if q < 512 then (params.logsinRom (BitVec.ofNat 8 (511 - q))).toNat
      else if q < 768 then (params.logsinRom (BitVec.ofNat 8 (q - 512))).toNat ||| 0x8000
      else (params.logsinRom (BitVec.ofNat 8 (1023 - q))).toNat ||| 0x8000

/-- Rule R150: `logSin` has period 1024, flips its sign marker over the half-period, and mirrors within a half. -/
def Obligations.LogSinSymmetries : Prop :=
  (∀ p : Int, logSin params (p + 1024) = logSin params p) ∧
  (∀ p : Int, logSin params (p + 512) = logSin params p ^^^ 0x8000) ∧
  (∀ p : Int, 0 ≤ p → p ≤ 511 → logSin params (511 - p) = logSin params p)

/-- Rule R146: `expOf` as arithmetic on the fields of its operand, every shift a floor division. -/
def Obligations.ExpOfComposition : Prop :=
  ∀ v : Nat,
    let w := v % 65536
    let m := (params.expRom (BitVec.ofNat 8 (255 - w % 256))).toNat
    let r : Int := ((2 * (m ||| 0x400) / 2 ^ (w / 256 % 128) : Nat) : Int)
    expOf params v = if w < 32768 then r / 16 else (-r - 1) / 16

/-- Rule R147: the range of `expOf` with the default tables, its extremes, and the range of the shifted mantissa. The
rule derives it from table contents that are from general knowledge (log entry 5). -/
def Obligations.ExpOfRange : Prop :=
  (∀ i : BitVec 8, 2048 ≤ ((params.expRom i).toNat ||| params.base) <<< 1 ∧
    ((params.expRom i).toNat ||| params.base) <<< 1 ≤ 4084) ∧
  (∀ v : Nat, v % 65536 < 32768 → 0 ≤ expOf params v ∧ expOf params v ≤ 255) ∧
  (∀ v : Nat, 32768 ≤ v % 65536 → -256 ≤ expOf params v ∧ expOf params v ≤ -1) ∧
  expOf params 0x0000 = 255 ∧ expOf params 0x8000 = -256

/-! ### The envelope generator -/

/-- Rules R173, R174, R175, R177 and R184, for any parameters: one evaluation with the gate high: a rising edge restarts
the attack from `EA_INIT` and takes its first step; the attack adds its rate up to the maximum, which starts the decay;
the decay subtracts its rate down to `EA_SUSTAIN` and is shaped; a stage that has nothing to do only renews `EAo`. An
evaluation that ends the attack (it would leave `top`) leaves that, or with `EG_DECAY_SAME_TICK` set (rule R172) takes
the first decay step from it as well. -/
def Obligations.GatedEnvelopeStep : Prop :=
  ∀ (P : Params) (o : OpRegs) (ea : BitVec 20),
    (ea.toNat = min (P.eaInit.toNat + o.ar.toNat) 0xFFFFF → ea ≠ 0xFFFFF#20 →
      egStep P false true o = { o with stage := .attack, ea := ea, eax := ea, eao := ea }) ∧
    (o.stage = .attack → ea.toNat = min (o.ea.toNat + o.ar.toNat) 0xFFFFF → ea ≠ 0xFFFFF#20 →
      egStep P true true o = { o with ea := ea, eax := ea, eao := ea }) ∧
    (∀ (gateOld : Bool) (top : OpRegs),
      (gateOld = false ∧ 0xFFFFF ≤ P.eaInit.toNat + o.ar.toNat ∧
        top = { o with stage := .decay, ea := 0xFFFFF#20, eax := 0xFFFFF#20 }) ∨
      (gateOld = true ∧ o.stage = .attack ∧ o.ea ≠ 0xFFFFF#20 ∧ 0xFFFFF ≤ o.ea.toNat + o.ar.toNat ∧
        top = { o with stage := .decay, ea := 0xFFFFF#20, eax := 0xFFFFF#20 }) ∨
      (gateOld = true ∧ o.stage = .attack ∧ o.ea = 0xFFFFF#20 ∧ top = { o with stage := .decay }) →
      (P.egDecaySameTick = false ∨ P.eaSustain = 0xFFFFF#20 →
        egStep P gateOld true o = { top with eao := 0xFFFFF#20 }) ∧
      (P.egDecaySameTick = true → P.eaSustain ≠ 0xFFFFF#20 →
        (ea.toNat : Int) = max (0xFFFFF - (o.dr.toNat : Int)) P.eaSustain.toNat →
        egStep P gateOld true o = { top with ea := ea, eax := P.decayShape ea P.eaSustain, eao := ea })) ∧
    (o.stage = .decay → P.eaSustain.toNat < o.ea.toNat →
      (ea.toNat : Int) = max ((o.ea.toNat : Int) - o.dr.toNat) P.eaSustain.toNat →
      egStep P true true o =
        { o with ea := ea, eax := P.decayShape ea P.eaSustain, eao := ea }) ∧
    (o.stage = .decay → o.ea.toNat ≤ P.eaSustain.toNat →
      egStep P true true o = { o with eao := o.ea }) ∧
    (o.stage = .idle → egStep P true true o = { o with eao := o.ea })

/-- Rules R180, R181, R182 and R184: one evaluation with the gate low: a falling edge snapshots the accumulator, its
shaped value and the release rate and enters the idle stage; then the release rate is subtracted modulo 2^20, a result
above `EAo` is forced to 0, and the shaped value is computed from the final accumulator. -/
def Obligations.UngatedEnvelopeStep : Prop :=
  ∀ (gateOld : Bool) (o s : OpRegs) (raw ea : BitVec 20),
    s = (if gateOld = true then { o with rs := o.ea, rsx := o.eax, rra := o.rr, stage := .idle } else o) →
    (o.ea = 0#20 → egStep params gateOld false o = { s with eao := 0#20 }) ∧
    (o.ea ≠ 0#20 → (raw.toNat : Int) = ((o.ea.toNat : Int) - s.rra.toNat) % 2 ^ 20 →
      ea = (if o.eao.toNat < raw.toNat then 0#20 else raw) →
      egStep params gateOld false o =
        { s with ea := ea, eax := params.releaseShape ea s.rs s.rsx, eao := ea })

/-- Rule R182's consequence: where `EAo` is `EA`, steps 6 and 7 together are `EA <- max(EA - RRA, 0)`, with the rate
just snapshotted on a falling edge. -/
def Obligations.ReleaseSubtractsDownToZero : Prop :=
  ∀ o : OpRegs, o.eao = o.ea →
    (egStep params false false o).ea.toNat = o.ea.toNat - o.rra.toNat ∧
    (egStep params true false o).ea.toNat = o.ea.toNat - o.rr.toNat

/-- Rule R186: with the gate held the accumulator does not fall in attack and does not rise in decay; with the gate low
it does not rise; after every evaluation `EAo` is `EA`. -/
def Obligations.EnvelopeIsMonotone : Prop :=
  ∀ o : OpRegs,
    (o.stage = .attack → o.ea.toNat ≤ (egStep params true true o).ea.toNat) ∧
    (o.stage = .decay → (egStep params true true o).ea.toNat ≤ o.ea.toNat ∧
      (egStep params true true o).stage = .decay) ∧
    (∀ gateOld, o.eao = o.ea → (egStep params gateOld false o).ea.toNat ≤ o.ea.toNat) ∧
    (∀ gateOld gate, (egStep params gateOld gate o).eao = (egStep params gateOld gate o).ea)

/-- Rule R176: with the gate held and `AR > 0`, the accumulator first equals the maximum after
`ceil((0xFFFFF - EA_INIT) / AR)` evaluations, the one that sees the rising edge counted. -/
def Obligations.AttackReachesCeilingInTime : Prop :=
  ∀ (o : OpRegs) (n : Nat), 0 < o.ar.toNat →
    n = (0xFFFFF - params.eaInit.toNat + o.ar.toNat - 1) / o.ar.toNat →
    1 ≤ n ∧ ((egStep params true true)^[n - 1] (egStep params false true o)).ea = 0xFFFFF#20 ∧
    ((egStep params true true)^[n - 1] (egStep params false true o)).stage = .decay ∧
    ∀ m, m < n - 1 → ((egStep params true true)^[m] (egStep params false true o)).ea ≠ 0xFFFFF#20

/-- Rule R186: a release with a positive rate reaches 0 after `ceil(RS / RRA)` evaluations, the one that sees the
falling edge counted, and its shaped value is then 0 and stays 0. -/
def Obligations.ReleaseReachesSilenceInTime : Prop :=
  ∀ (o : OpRegs) (n : Nat), o.eao = o.ea → 0 < o.ea.toNat → 0 < o.rr.toNat →
    n = (o.ea.toNat + o.rr.toNat - 1) / o.rr.toNat →
    1 ≤ n ∧
    (∀ m, n ≤ m + 1 →
      ((egStep params false false)^[m] (egStep params true false o)).ea = 0#20 ∧
      ((egStep params false false)^[m] (egStep params true false o)).eax = 0#20) ∧
    ∀ m, m + 1 < n → 0 < ((egStep params false false)^[m] (egStep params true false o)).ea.toNat

/-- Rules R179 and R183: the default shapes are non-decreasing in `EA` and map the ends to the ends, over a table whose
contents are from general knowledge (log entry 5). -/
def Obligations.ShapesAreMonotoneAndHitTheEnds : Prop :=
  (∀ sl x y : BitVec 20, sl.toNat ≤ x.toNat → x.toNat ≤ y.toNat →
    (params.decayShape x sl).toNat ≤ (params.decayShape y sl).toNat) ∧
  (∀ sl : BitVec 20, params.decayShape 0xFFFFF#20 sl = 0xFFFFF#20 ∧ params.decayShape sl sl = sl) ∧
  (∀ rs rsx x y : BitVec 20, x.toNat ≤ y.toNat →
    (params.releaseShape x rs rsx).toNat ≤ (params.releaseShape y rs rsx).toNat) ∧
  (∀ rs rsx : BitVec 20, params.releaseShape 0#20 rs rsx = 0#20 ∧
    (rs ≠ 0#20 → params.releaseShape rs rs rsx = rsx) ∧ (∀ x, params.releaseShape x 0#20 rsx = 0#20))

/-! ### Phase, amplitude and the operator network -/

/-- Rule R201: the phase advances modulo 2^28, and its top ten bits are rewritten from the advanced accumulator. Rule
R203: `AMP = min((4095 - EAx[19:8]) + EG + 8 * VEL, 4095)`, and 4095 where the envelope is silent. -/
def Obligations.PhaseWrapsAndAmplitudeClamps : Prop :=
  (∀ o : OpRegs, ∃ (pa : BitVec 28) (pae : BitVec 10), phaseStep o = { o with pa := pa, pae := pae } ∧
    pa.toNat = (o.pa.toNat + o.cw.toNat) % 2 ^ 28 ∧ pae.toNat = pa.toNat / 2 ^ 18) ∧
  (∀ (eg : BitVec 12) (vel : BitVec 7) (o : OpRegs), ∃ amp : BitVec 12, ampStep eg vel o = { o with amp := amp } ∧
    amp.toNat = min ((4095 - o.eax.toNat / 256) + eg.toNat + 8 * vel.toNat) 4095 ∧
    (o.eax = 0#20 → amp = 4095#12))

/-- Rules R204 and R205: an operator at 4095 gives `SILENT`; any other is `expOf(logSin(ph mod 1024) + amp)`, and the
sum does not carry into bit 15; the output is in [-256, 255]. -/
def Obligations.OperatorOutput : Prop :=
  ∀ (ph : Int) (amp : BitVec 12),
    (amp = 4095#12 → opEval params ph amp = 0) ∧
    (amp ≠ 4095#12 → opEval params ph amp = expOf params (logSin params (ph % 1024) + amp.toNat)) ∧
    logSin params ph % 2 ^ 15 + amp.toNat < 2 ^ 15 ∧ inStackRange (opEval params ph amp)

/-- Rules R206 to R211 and R216, for any parameters: the two modulator outputs in every pair of topologies: the offsets
of NORM, PI/2, PI and CROSS, a CROSS stack reading the other's output of this tick, and, with both in CROSS, stack 1
reading stack 2's output of the previous tick; each is silent exactly when its own attenuation is 4095, but for stack 2
in PI/2 with `PI2_GATE_QUIRK` set, which is silent exactly when `AMP[1]` is and is else computed from `AMP[3]`, at 4095
too. -/
def Obligations.TopologiesOfTheModulators : Prop :=
  ∀ (P : Params) (mode1 mode2 : Mode) (v : Voice) (m1 m2 off1 off2 : Int),
    modulators P mode1 mode2 v = (m1, m2) →
    off1 = (match mode1 with
      | .norm => 0
      | .piHalf => (v.m1old1.toInt + v.m1old2.toInt) / 16
      | .pi => (v.m1old1.toInt + v.m1old2.toInt) / 8
      | .cross => if mode2 = .cross then v.m2old1.toInt else m2) →
    off2 = (match mode2 with
      | .norm => 0
      | .piHalf => (v.m2old1.toInt + v.m2old2.toInt) / 16
      | .pi => (v.m2old1.toInt + v.m2old2.toInt) / 8
      | .cross => m1) →
    ((v.op.get .m1).amp = 4095#12 → m1 = P.silent) ∧
    ((v.op.get .m1).amp ≠ 4095#12 →
      m1 = expOf P (logSin P ((((v.op.get .m1).pae.toNat : Int) + off1) % 1024) + (v.op.get .m1).amp.toNat)) ∧
    (P.pi2GateQuirk = false ∨ mode2 ≠ .piHalf →
      ((v.op.get .m2).amp = 4095#12 → m2 = P.silent) ∧
      ((v.op.get .m2).amp ≠ 4095#12 →
        m2 = expOf P (logSin P ((((v.op.get .m2).pae.toNat : Int) + off2) % 1024) + (v.op.get .m2).amp.toNat))) ∧
    (P.pi2GateQuirk = true → mode2 = .piHalf →
      ((v.op.get .c2).amp = 4095#12 → m2 = P.silent) ∧
      ((v.op.get .c2).amp ≠ 4095#12 →
        m2 = expOf P (logSin P ((((v.op.get .m2).pae.toNat : Int) + off2) % 1024) + (v.op.get .m2).amp.toNat)))

/-- Rules R212 to R214: each carrier is offset by its own modulator, the sample is their sum and in [-512, 510], and
the history shifts in every topology and holds the modulator outputs exactly. -/
def Obligations.CarriersSampleAndHistory : Prop :=
  ∀ (mode1 mode2 : Mode) (v : Voice) (m1 m2 : Int), modulators params mode1 mode2 v = (m1, m2) →
    networkSample params mode1 mode2 v =
      opEval params (((v.op.get .c1).pae.toNat : Int) + m1) (v.op.get .c1).amp +
      opEval params (((v.op.get .c2).pae.toNat : Int) + m2) (v.op.get .c2).amp ∧
    (-512 ≤ networkSample params mode1 mode2 v ∧ networkSample params mode1 mode2 v ≤ 510) ∧
    ∃ h1 h2 : BitVec 14, networkHistory params mode1 mode2 v =
        { v with m1old1 := h1, m1old2 := v.m1old1, m2old1 := h2, m2old2 := v.m2old1 } ∧
      h1.toInt = m1 ∧ h2.toInt = m2

/-- Rule R200, with what rule R213 leaves in the history: the order inside one voice tick, operator by operator; the
sample taken from, and the history written by, the modulators over the phases and amplitudes of this tick; and the gate
latch. -/
def Obligations.VoiceTickOrder : Prop :=
  ∀ (mode1 mode2 : Mode) (v : Voice),
    (∀ i, ((voiceTick params mode1 mode2 v).op.get i) =
      ampStep (v.eg.get i) v.vel (phaseStep (egStep params v.gateOld v.gate (v.op.get i)))) ∧
    (voiceTick params mode1 mode2 v).gateOld = v.gate ∧ (voiceTick params mode1 mode2 v).gate = v.gateNew ∧
    (voiceTick params mode1 mode2 v).gateNew = v.gateNew ∧
    voiceSample params mode1 mode2 v =
      networkSample params mode1 mode2 { v with op := (voiceTick params mode1 mode2 v).op } ∧
    ∀ m1 m2 : Int, modulators params mode1 mode2 { v with op := (voiceTick params mode1 mode2 v).op } = (m1, m2) →
      (voiceTick params mode1 mode2 v).m1old1.toInt = m1 ∧ (voiceTick params mode1 mode2 v).m1old2 = v.m1old1 ∧
      (voiceTick params mode1 mode2 v).m2old1.toInt = m2 ∧ (voiceTick params mode1 mode2 v).m2old2 = v.m2old1

/-- Rules R27 and R217: a voice whose requested and applied gates are low and whose four envelopes have decayed to zero
contributes 0, and after the tick its gates are low and its envelopes at zero again, in whatever topologies, so that it
contributes 0 to every later tick until its gate is requested. -/
def Obligations.DecayedVoiceStaysSilent : Prop :=
  ∀ (mode1 mode2 : Mode) (v : Voice), v.gateNew = false → v.gate = false → v.gateOld = false →
    (∀ i, (v.op.get i).ea = 0#20 ∧ (v.op.get i).eax = 0#20) →
    voiceSample params mode1 mode2 v = 0 ∧
    (voiceTick params mode1 mode2 v).gateNew = false ∧ (voiceTick params mode1 mode2 v).gate = false ∧
    (voiceTick params mode1 mode2 v).gateOld = false ∧
    ∀ i, ((voiceTick params mode1 mode2 v).op.get i).ea = 0#20 ∧
      ((voiceTick params mode1 mode2 v).op.get i).eax = 0#20 ∧
      ((voiceTick params mode1 mode2 v).op.get i).amp = 4095#12

/-! ### TICK -/

/-- Rules R260 and R261: TICK advances every voice exactly once, each from its own fields and the two modes alone, and
leaves in `MIX` the integer sum of their samples, unwrapped and in [-16384, 16320]; nothing else changes. -/
def Obligations.TickAdvancesEveryVoice : Prop :=
  ∀ s : State, s.Running →
    ∃ t, exec .tick s = .next t ∧ t = { s with voices := t.voices, mix := t.mix } ∧
      (∀ v : Fin 32, t.voice v = voiceTick params s.mode1 s.mode2 (s.voice v)) ∧
      t.mix.toInt = ∑ v : Fin 32, voiceSample params s.mode1 s.mode2 (s.voice v) ∧ inMixRange t.mix.toInt

/-- Rule R333: the first TICK after a NOTEON only latches the request and the voice is silent in it; the second sees the
rising edge, and each operator then holds its attack rate above `EA_INIT`. -/
def Obligations.NoteonActsTwoTicksLater : Prop :=
  ∀ (s : State) (note vel : BitVec 7), s.Running → s.patchSel.v = true →
    params.keyLo ≤ note.toNat → note.toNat ≤ params.keyHi →
    ∃ t u w, exec (.noteon note vel) s = .next t ∧ exec .tick t = .next u ∧ exec .tick u = .next w ∧
      voiceSample params t.mode1 t.mode2 (t.voice (voiceIdx s.rridx)) = 0 ∧
      (u.voice (voiceIdx s.rridx)).gate = true ∧ (u.voice (voiceIdx s.rridx)).gateOld = false ∧
      (∀ i, ((u.voice (voiceIdx s.rridx)).op.get i).stage = .idle ∧
        ((u.voice (voiceIdx s.rridx)).op.get i).ea = 0#20) ∧
      ∀ i, ((w.voice (voiceIdx s.rridx)).op.get i).stage ≠ .idle ∧
        ((w.voice (voiceIdx s.rridx)).op.get i).ea.toNat =
          min (params.eaInit.toNat + ((keyParam params s.patchSel.idx note).get i).ar.toNat) 0xFFFFF

/-- Rule R334: a NOTEON and its NOTEOFF with no TICK between them, pedal up, start no attack in any number of TICKs: the
voice stays in stage 0 and silent. -/
def Obligations.TriggerAndReleaseStartsNoAttack : Prop :=
  ∀ (s : State) (note vel : BitVec 7), s.Running → s.patchSel.v = true →
    params.keyLo ≤ note.toNat → note.toNat ≤ params.keyHi → (s.voice (voiceIdx s.rridx)).sustaining = false →
    ∃ t u, exec (.noteon note vel) s = .next t ∧ exec (.noteoff note) t = .next u ∧
      u.rridx = s.rridx + 1#5 ∧
      ∀ (mode1 mode2 : Mode) (n : Nat) (x : Voice),
        x = (voiceTick params mode1 mode2)^[n] (u.voice (voiceIdx s.rridx)) →
        x.gateNew = false ∧ x.gate = false ∧ x.gateOld = false ∧
        (∀ i, (x.op.get i).stage = .idle ∧ (x.op.get i).ea = 0#20) ∧ voiceSample params mode1 mode2 x = 0

/-! ### CHORUS and the delay lines -/

/-- Rules R282 to R286: CHORUS writes `MIX` at `WP` in the three lines, reads one tap from each at `(WP - d) mod 64`
after the write, forms the two outputs and advances `WP` modulo 64 and `CHTICK` modulo 65536; nothing else changes. -/
def Obligations.ChorusPushesReadsAndAdvances : Prop :=
  ∀ s : State, s.Running → s.MemoryWf →
    ∃ (t : State) (y : Line → Int), exec .chorus s = .next t ∧
      t = { s with dl := t.dl, outl := t.outl, outr := t.outr, wp := t.wp, chtick := t.chtick } ∧
      (∀ k a, Memory.read (t.dl.line k) a = if a = s.wp.toNat then s.mix else Memory.read (s.dl.line k) a) ∧
      (∀ k, y k =
        if lfoDelay params k s.chtick = 0 then s.mix.toInt
        else (Memory.read (s.dl.line k) ((s.wp.toNat + 64 - lfoDelay params k s.chtick) % 64)).toInt) ∧
      t.outl.toInt = y .a + 2 * y .c ∧ t.outr.toInt = y .a + 2 * y .b ∧
      t.wp.toNat = (s.wp.toNat + 1) % 64 ∧ t.chtick.toNat = (s.chtick.toNat + 1) % 65536

/-- Rule R288: the bounds of the delays, for every counter value; the model puts them on the open `LFO_DELAY`, and a
delay that is within its line's range is left as it is (log entry 12). -/
def Obligations.DelaysStayInBounds : Prop :=
  (∀ t : BitVec 16, lfoDelay params .a t ≤ 61 ∧ lfoDelay params .b t ≤ 60 ∧ lfoDelay params .c t ≤ 63) ∧
  ∀ (P : Params) (t : BitVec 16),
    (P.lfo .a t ≤ 61 → lfoDelay P .a t = P.lfo .a t) ∧ (P.lfo .b t ≤ 60 → lfoDelay P .b t = P.lfo .b t) ∧
    (P.lfo .c t ≤ 63 → lfoDelay P .c t = P.lfo .c t)

/-- Equal contents are equal data: two delay lines in canonical form that read the same everywhere are the same list
(the canonical form is the model's choice, log entry 13). -/
def Obligations.CanonicalLinesAreUnique : Prop :=
  ∀ m n : Memory, m.wf = true → n.wf = true → (∀ a, Memory.read m a = Memory.read n a) → m = n

/-! ### Frames -/

/-- What INIT, SELPATCH and SETMODE leave unchanged: every voice, every delay-line element, `RRIDX`, the counters and
the output registers; INIT changes no register but `STATUS.READY`, SELPATCH none but `PATCHSEL` and the fault
registers, SETMODE none but the mode of its stack and the fault registers (rules R149, R241, R253). -/
def Obligations.FrameOfSetupCommands : Prop :=
  ∀ (i : Instr) (s t : State),
    (i = .init ∨ (∃ idx, i = .selpatch idx) ∨ (∃ st m, i = .setmode st m)) → exec i s = .next t →
    (∀ v, t.voice v = s.voice v) ∧ (∀ k a, Memory.read (t.dl.line k) a = Memory.read (s.dl.line k) a) ∧
    t.rridx = s.rridx ∧ t.mix = s.mix ∧ t.outl = s.outl ∧ t.outr = s.outr ∧ t.wp = s.wp ∧
    t.chtick = s.chtick ∧ t.port = s.port ∧
    (i = .init → t.status.fault = s.status.fault ∧ t.cause = s.cause) ∧
    (i ≠ .init → t.status.ready = s.status.ready ∧
      (t.status.fault = s.status.fault → t.cause = s.cause)) ∧
    ((∀ idx, i ≠ .selpatch idx) → t.patchSel = s.patchSel) ∧
    ((∀ m, i ≠ .setmode .one m) → t.mode1 = s.mode1) ∧ ((∀ m, i ≠ .setmode .two m) → t.mode2 = s.mode2)

/-- What NOTEON, NOTEOFF and SUSTAIN leave unchanged: every delay-line element, the counters of the chorus, the outputs,
the modes, `PATCHSEL`, `STATUS.READY`; NOTEON every voice but the one `RRIDX` names, and its `sustaining`; NOTEOFF and
SUSTAIN `RRIDX` and, in each voice, all but `noteOn` and `GATENEW`, respectively all but `sustaining` and `GATENEW`; a
`CAUSE` changes only with `FAULT` (rules R242 to R245, R251, R252). -/
def Obligations.FrameOfNoteCommands : Prop :=
  ∀ (i : Instr) (s t : State),
    ((∃ n l, i = .noteon n l) ∨ (∃ n, i = .noteoff n) ∨ (∃ d, i = .sustain d)) → exec i s = .next t →
    (∀ k a, Memory.read (t.dl.line k) a = Memory.read (s.dl.line k) a) ∧ t.mix = s.mix ∧ t.outl = s.outl ∧
    t.outr = s.outr ∧ t.wp = s.wp ∧ t.chtick = s.chtick ∧ t.mode1 = s.mode1 ∧ t.mode2 = s.mode2 ∧
    t.patchSel = s.patchSel ∧ t.port = s.port ∧ t.status.ready = s.status.ready ∧
    (t.status.fault = s.status.fault → t.cause = s.cause) ∧
    (∀ n l, i = .noteon n l → (∀ v, v ≠ voiceIdx s.rridx → t.voice v = s.voice v) ∧
      (t.voice (voiceIdx s.rridx)).sustaining = (s.voice (voiceIdx s.rridx)).sustaining) ∧
    (∀ n, i = .noteoff n → t.rridx = s.rridx ∧ ∀ v, t.voice v =
      { s.voice v with noteOn := (t.voice v).noteOn, gateNew := (t.voice v).gateNew }) ∧
    (∀ d, i = .sustain d → t.rridx = s.rridx ∧ ∀ v, t.voice v =
      { s.voice v with sustaining := (t.voice v).sustaining, gateNew := (t.voice v).gateNew })

/-- What TICK leaves unchanged: every delay-line element, the counters, `OUTL`, `OUTR`, the modes, `PATCHSEL`, `RRIDX`,
`STATUS.READY`, and in each voice `NOTE`, `VEL`, `noteOn`, `sustaining`, `GATENEW`, `EG` and each operator's `AR`, `DR`,
`RR` and `CW`; `RS`, `RSx` and `RRA` too unless the voice's gate falls (rules R21, R23, R260). -/
def Obligations.FrameOfTick : Prop :=
  ∀ s t : State, exec .tick s = .next t →
    (∀ k a, Memory.read (t.dl.line k) a = Memory.read (s.dl.line k) a) ∧ t.outl = s.outl ∧ t.outr = s.outr ∧
    t.wp = s.wp ∧ t.chtick = s.chtick ∧ t.mode1 = s.mode1 ∧ t.mode2 = s.mode2 ∧ t.patchSel = s.patchSel ∧
    t.rridx = s.rridx ∧ t.port = s.port ∧ t.status.ready = s.status.ready ∧
    (t.status.fault = s.status.fault → t.cause = s.cause) ∧
    ∀ v, (t.voice v).note = (s.voice v).note ∧ (t.voice v).vel = (s.voice v).vel ∧
      (t.voice v).noteOn = (s.voice v).noteOn ∧ (t.voice v).sustaining = (s.voice v).sustaining ∧
      (t.voice v).gateNew = (s.voice v).gateNew ∧ (t.voice v).eg = (s.voice v).eg ∧
      ∀ i, ((t.voice v).op.get i).ar = ((s.voice v).op.get i).ar ∧
        ((t.voice v).op.get i).dr = ((s.voice v).op.get i).dr ∧
        ((t.voice v).op.get i).rr = ((s.voice v).op.get i).rr ∧
        ((t.voice v).op.get i).cw = ((s.voice v).op.get i).cw ∧
        (falling (s.voice v).gateOld (s.voice v).gate = false →
          ((t.voice v).op.get i).rs = ((s.voice v).op.get i).rs ∧
          ((t.voice v).op.get i).rsx = ((s.voice v).op.get i).rsx ∧
          ((t.voice v).op.get i).rra = ((s.voice v).op.get i).rra)

/-- What CHORUS leaves unchanged: every voice, `RRIDX`, `PATCHSEL`, the modes, `MIX`, `STATUS.READY`, and every
delay-line element but the one it stores at `WP` (rules R282, R283). -/
def Obligations.FrameOfChorus : Prop :=
  ∀ s t : State, s.MemoryWf → exec .chorus s = .next t →
    (∀ v, t.voice v = s.voice v) ∧ t.rridx = s.rridx ∧ t.patchSel = s.patchSel ∧ t.mode1 = s.mode1 ∧
    t.mode2 = s.mode2 ∧ t.mix = s.mix ∧ t.port = s.port ∧ t.status.ready = s.status.ready ∧
    (t.status.fault = s.status.fault → t.cause = s.cause) ∧
    ∀ k a, a ≠ s.wp.toNat → Memory.read (t.dl.line k) a = Memory.read (s.dl.line k) a

/-! ### Rules about the whole machine -/

/-- Rules R22 and R28: the three counters advance on their own commands alone: `RRIDX` by one on a NOTEON, `CHTICK` and
`WP` by one on a CHORUS. -/
def Obligations.CountersAdvanceOnTheirOwnCommands : Prop :=
  ∀ (i : Instr) (s t : State), exec i s = .next t →
    (t.rridx ≠ s.rridx → (∃ n l, i = .noteon n l) ∧ t.rridx.toNat = (s.rridx.toNat + 1) % 32) ∧
    (t.wp ≠ s.wp ∨ t.chtick ≠ s.chtick →
      i = .chorus ∧ t.wp.toNat = (s.wp.toNat + 1) % 64 ∧ t.chtick.toNat = (s.chtick.toNat + 1) % 65536)

/-- Rule R245: the key parameters of a voice are written by nothing but a NOTEON that takes the voice. -/
def Obligations.KeyParametersAreWrittenOnlyByNoteon : Prop :=
  ∀ (i : Instr) (s t : State) (v : Fin 32), exec i s = .next t →
    ((∀ n l, i ≠ .noteon n l) ∨ v ≠ voiceIdx s.rridx) →
    (t.voice v).eg = (s.voice v).eg ∧
    ∀ j, ((t.voice v).op.get j).cw = ((s.voice v).op.get j).cw ∧
      ((t.voice v).op.get j).ar = ((s.voice v).op.get j).ar ∧
      ((t.voice v).op.get j).dr = ((s.voice v).op.get j).dr ∧
      ((t.voice v).op.get j).rr = ((s.voice v).op.get j).rr

/-- Rule R24: commands write only the requested gate, and NOTEON clears the other two in the voice it takes (a NOTEON that
faults takes none); only TICK moves `GATENEW` into `GATE` and `GATE` into `GATEOLD`. -/
def Obligations.AppliedGatesMoveOnlyOnTick : Prop :=
  ∀ (i : Instr) (s t : State) (v : Fin 32), exec i s = .next t →
    (i ≠ .tick → ((t.voice v).gate = (s.voice v).gate ∧ (t.voice v).gateOld = (s.voice v).gateOld) ∨
      ((∃ n l, i = .noteon n l) ∧ v = voiceIdx s.rridx ∧ (t.voice v).gate = false ∧
        (t.voice v).gateOld = false)) ∧
    (∀ note vel, i = .noteon note vel → s.Running → s.patchSel.v = true → params.keyLo ≤ note.toNat →
      note.toNat ≤ params.keyHi → v = voiceIdx s.rridx → (t.voice v).gate = false ∧ (t.voice v).gateOld = false) ∧
    (i = .tick → s.Running → (t.voice v).gate = (s.voice v).gateNew ∧ (t.voice v).gateOld = (s.voice v).gate)

/-- Rule R94: `PATCHSEL` is read only by NOTEON and the two modes only by TICK: any other command does the same
whatever they hold. -/
def Obligations.ConfigurationIsReadInOnePlace : Prop :=
  (∀ (i : Instr) (s t : State) (p : PatchSel), (∀ n l, i ≠ .noteon n l) → (∀ idx, i ≠ .selpatch idx) →
    exec i s = .next t → exec i { s with patchSel := p } = .next { t with patchSel := p }) ∧
  (∀ (i : Instr) (s t : State) (m1 m2 : Mode), i ≠ .tick → (∀ st m, i ≠ .setmode st m) →
    exec i s = .next t → exec i { s with mode1 := m1, mode2 := m2 } = .next { t with mode1 := m1, mode2 := m2 })

/-! ### Invariants -/

/-- Every invariant below holds at reset. -/
def Obligations.InvariantsHoldAtReset : Prop :=
  State.reset.MemoryWf ∧ State.reset.LinesEqual ∧ State.reset.FaultRecorded ∧ State.reset.PedalUniform ∧
  State.reset.PatchSelected ∧ State.reset.EnvelopesOk ∧ State.reset.PhasesOk ∧ State.reset.RangesOk

/-- Every step keeps the three delay lines equal to each other (rule R290), and keeps them in canonical form, which is
the model's form (log entry 13). -/
def Obligations.StepKeepsDelayLines : Prop :=
  ∀ s t : State, step s = .next t → (s.MemoryWf → t.MemoryWf) ∧ (s.LinesEqual → t.LinesEqual)

/-- Every step keeps the envelopes as `OpRegs.EnvelopeOk` says, silence among it (rules R27, R173, R183, R186). -/
def Obligations.StepKeepsEnvelopes : Prop :=
  ∀ s t : State, step s = .next t → s.EnvelopesOk → t.EnvelopesOk

/-- Every step keeps the computed ranges of the history registers, `MIX`, the delay lines and the outputs (rules R217,
R261, R285). -/
def Obligations.StepKeepsComputedRanges : Prop :=
  ∀ s t : State, step s = .next t → s.MemoryWf → s.RangesOk → t.RangesOk

/-- Every step keeps `CAUSE` 0 exactly while `FAULT` is 0 and at most 4, the pedal flag uniform, a selected patch
supported, and each visible phase the top of its accumulator (rules R23, R29, R30, R244, R301). -/
def Obligations.StepKeepsRegistersConsistent : Prop :=
  ∀ s t : State, step s = .next t →
    (s.FaultRecorded → t.FaultRecorded) ∧ (s.PedalUniform → t.PedalUniform) ∧
    (s.PatchSelected → t.PatchSelected) ∧ (s.PhasesOk → t.PhasesOk)
end

