-- ==== Sys2Proof/Laws/Memory.lean ====
section
/-! SUPPORT. The laws of the delay-line memories: what a read gives after a write, and that every write keeps the
canonical form. -/

namespace Sys2Proof.Machine

@[simp] theorem Memory.read_nil (i : Nat) : Memory.read [] i = Memory.unlisted := rfl

theorem Memory.read_cons (j : Nat) (y : Sample) (m : Memory) (i : Nat) :
    Memory.read ((j, y) :: m) i = if i = j then y else Memory.read m i := rfl

theorem Memory.wfAbove_cons (lo j : Nat) (y : Sample) (m : Memory) :
    Memory.wfAbove lo ((j, y) :: m) = true ↔
      lo ≤ j ∧ j < dlCap ∧ y ≠ Memory.unlisted ∧ Memory.wfAbove (j + 1) m = true := by
  simp [Memory.wfAbove, and_assoc]

/-- The canonical form above a bound holds above every lower bound. -/
theorem Memory.wfAbove_mono {lo lo' : Nat} (h : lo' ≤ lo) {m : Memory} (hm : Memory.wfAbove lo m = true) :
    Memory.wfAbove lo' m = true := by
  cases m with
  | nil => rfl
  | cons c m =>
    obtain ⟨j, y⟩ := c
    rw [Memory.wfAbove_cons] at hm ⊢
    exact ⟨by omega, hm.2⟩

/-- Below the bound of a canonical memory every index is unlisted. -/
theorem Memory.read_below {lo i : Nat} (h : i < lo) {m : Memory} (hm : Memory.wfAbove lo m = true) :
    Memory.read m i = Memory.unlisted := by
  induction m generalizing lo with
  | nil => rfl
  | cons c m ih =>
    obtain ⟨j, y⟩ := c
    rw [Memory.wfAbove_cons] at hm
    rw [Memory.read_cons, if_neg (by omega)]
    exact ih (by omega) hm.2.2.2

theorem Memory.put_wfAbove {i lo : Nat} {x : Sample} {m : Memory} (hi : i < dlCap) (hlo : lo ≤ i)
    (hm : Memory.wfAbove (i + 1) m = true) : Memory.wfAbove lo (Memory.put i x m) = true := by
  unfold Memory.put
  split
  · exact Memory.wfAbove_mono (by omega) hm
  · rw [Memory.wfAbove_cons]; exact ⟨hlo, hi, ‹_›, hm⟩

theorem Memory.write_wfAbove {i lo : Nat} {x : Sample} (hi : i < dlCap) (hlo : lo ≤ i) {m : Memory}
    (hm : Memory.wfAbove lo m = true) : Memory.wfAbove lo (Memory.write i x m) = true := by
  induction m generalizing lo with
  | nil => exact Memory.put_wfAbove hi hlo rfl
  | cons c m ih =>
    obtain ⟨j, y⟩ := c
    have hc := (Memory.wfAbove_cons lo j y m).1 hm
    unfold Memory.write
    split
    · exact Memory.put_wfAbove hi hlo ((Memory.wfAbove_cons _ _ _ _).2 ⟨by omega, hc.2⟩)
    · split
      · subst i; exact Memory.put_wfAbove hi hlo hc.2.2.2
      · rw [Memory.wfAbove_cons]
        exact ⟨hc.1, hc.2.1, hc.2.2.1, ih (by omega) hc.2.2.2⟩

/-- Every write of an index in range keeps the canonical form. -/
theorem Memory.write_wf {i : Nat} {x : Sample} (hi : i < dlCap) {m : Memory} (hm : m.wf = true) :
    (Memory.write i x m).wf = true := Memory.write_wfAbove hi (Nat.zero_le _) hm

theorem Memory.read_put {i lo : Nat} {x : Sample} {m : Memory} (hlo : i < lo) (hm : Memory.wfAbove lo m = true)
    (a : Nat) : Memory.read (Memory.put i x m) a = if a = i then x else Memory.read m a := by
  unfold Memory.put
  split
  · rename_i hx
    split
    · subst a; rw [Memory.read_below hlo hm, hx]
    · rfl
  · rfl

theorem Memory.read_write_above {i lo : Nat} {x : Sample} {m : Memory} (hm : Memory.wfAbove lo m = true) (a : Nat) :
    Memory.read (Memory.write i x m) a = if a = i then x else Memory.read m a := by
  induction m generalizing lo with
  | nil => exact Memory.read_put (Nat.lt_succ_self i) rfl a
  | cons c m ih =>
    obtain ⟨j, y⟩ := c
    have hc := (Memory.wfAbove_cons lo j y m).1 hm
    unfold Memory.write
    split
    · exact Memory.read_put (lo := j) ‹_› ((Memory.wfAbove_cons _ _ _ _).2 ⟨le_refl _, hc.2⟩) a
    · split
      · subst i
        rw [Memory.read_put (Nat.lt_succ_self j) hc.2.2.2, Memory.read_cons]
        split <;> rfl
      · rw [Memory.read_cons, Memory.read_cons, ih hc.2.2.2]
        split
        · rw [if_neg (by omega)]
        · rfl

/-- What a read gives after a write, on a canonical memory. -/
theorem Memory.read_write {i : Nat} {x : Sample} {m : Memory} (hm : m.wf = true) (a : Nat) :
    Memory.read (Memory.write i x m) a = if a = i then x else Memory.read m a :=
  Memory.read_write_above hm a

@[simp] theorem DelayLines.writeAll_line (d : DelayLines) (i : Nat) (x : Sample) (k : Line) :
    (d.writeAll i x).line k = Memory.write i x (d.line k) := by cases k <;> rfl

end Sys2Proof.Machine
end

