-- ==== Sys2Proof/Laws/State.lean ====
section
/-! SUPPORT. One lemma for each field of the state after each update of Machine/Ops.lean, so that no proof unfolds a
record update. -/

namespace Sys2Proof.Machine

@[simp] theorem State.setVoice_voices (s : State) (v : Fin 32) (x : Voice) : (s.setVoice v x).voices = s.voices.set v.val x v.isLt := rfl
@[simp] theorem State.setVoice_rridx (s : State) (v : Fin 32) (x : Voice) : (s.setVoice v x).rridx = s.rridx := rfl
@[simp] theorem State.setVoice_status (s : State) (v : Fin 32) (x : Voice) : (s.setVoice v x).status = s.status := rfl
@[simp] theorem State.setVoice_cause (s : State) (v : Fin 32) (x : Voice) : (s.setVoice v x).cause = s.cause := rfl
@[simp] theorem State.setVoice_patchSel (s : State) (v : Fin 32) (x : Voice) : (s.setVoice v x).patchSel = s.patchSel := rfl
@[simp] theorem State.setVoice_mode1 (s : State) (v : Fin 32) (x : Voice) : (s.setVoice v x).mode1 = s.mode1 := rfl
@[simp] theorem State.setVoice_mode2 (s : State) (v : Fin 32) (x : Voice) : (s.setVoice v x).mode2 = s.mode2 := rfl
@[simp] theorem State.setVoice_mix (s : State) (v : Fin 32) (x : Voice) : (s.setVoice v x).mix = s.mix := rfl
@[simp] theorem State.setVoice_outl (s : State) (v : Fin 32) (x : Voice) : (s.setVoice v x).outl = s.outl := rfl
@[simp] theorem State.setVoice_outr (s : State) (v : Fin 32) (x : Voice) : (s.setVoice v x).outr = s.outr := rfl
@[simp] theorem State.setVoice_dl (s : State) (v : Fin 32) (x : Voice) : (s.setVoice v x).dl = s.dl := rfl
@[simp] theorem State.setVoice_wp (s : State) (v : Fin 32) (x : Voice) : (s.setVoice v x).wp = s.wp := rfl
@[simp] theorem State.setVoice_chtick (s : State) (v : Fin 32) (x : Voice) : (s.setVoice v x).chtick = s.chtick := rfl
@[simp] theorem State.setVoice_port (s : State) (v : Fin 32) (x : Voice) : (s.setVoice v x).port = s.port := rfl

@[simp] theorem State.mapVoice_voices (s : State) (f : Voice → Voice) : (s.mapVoice f).voices = mapVoices f s.voices := rfl
@[simp] theorem State.mapVoice_rridx (s : State) (f : Voice → Voice) : (s.mapVoice f).rridx = s.rridx := rfl
@[simp] theorem State.mapVoice_status (s : State) (f : Voice → Voice) : (s.mapVoice f).status = s.status := rfl
@[simp] theorem State.mapVoice_cause (s : State) (f : Voice → Voice) : (s.mapVoice f).cause = s.cause := rfl
@[simp] theorem State.mapVoice_patchSel (s : State) (f : Voice → Voice) : (s.mapVoice f).patchSel = s.patchSel := rfl
@[simp] theorem State.mapVoice_mode1 (s : State) (f : Voice → Voice) : (s.mapVoice f).mode1 = s.mode1 := rfl
@[simp] theorem State.mapVoice_mode2 (s : State) (f : Voice → Voice) : (s.mapVoice f).mode2 = s.mode2 := rfl
@[simp] theorem State.mapVoice_mix (s : State) (f : Voice → Voice) : (s.mapVoice f).mix = s.mix := rfl
@[simp] theorem State.mapVoice_outl (s : State) (f : Voice → Voice) : (s.mapVoice f).outl = s.outl := rfl
@[simp] theorem State.mapVoice_outr (s : State) (f : Voice → Voice) : (s.mapVoice f).outr = s.outr := rfl
@[simp] theorem State.mapVoice_dl (s : State) (f : Voice → Voice) : (s.mapVoice f).dl = s.dl := rfl
@[simp] theorem State.mapVoice_wp (s : State) (f : Voice → Voice) : (s.mapVoice f).wp = s.wp := rfl
@[simp] theorem State.mapVoice_chtick (s : State) (f : Voice → Voice) : (s.mapVoice f).chtick = s.chtick := rfl
@[simp] theorem State.mapVoice_port (s : State) (f : Voice → Voice) : (s.mapVoice f).port = s.port := rfl

@[simp] theorem State.setReady_voices (s : State) : (s.setReady).voices = s.voices := rfl
@[simp] theorem State.setReady_rridx (s : State) : (s.setReady).rridx = s.rridx := rfl
@[simp] theorem State.setReady_status (s : State) : (s.setReady).status = ⟨true, s.status.fault⟩ := rfl
@[simp] theorem State.setReady_cause (s : State) : (s.setReady).cause = s.cause := rfl
@[simp] theorem State.setReady_patchSel (s : State) : (s.setReady).patchSel = s.patchSel := rfl
@[simp] theorem State.setReady_mode1 (s : State) : (s.setReady).mode1 = s.mode1 := rfl
@[simp] theorem State.setReady_mode2 (s : State) : (s.setReady).mode2 = s.mode2 := rfl
@[simp] theorem State.setReady_mix (s : State) : (s.setReady).mix = s.mix := rfl
@[simp] theorem State.setReady_outl (s : State) : (s.setReady).outl = s.outl := rfl
@[simp] theorem State.setReady_outr (s : State) : (s.setReady).outr = s.outr := rfl
@[simp] theorem State.setReady_dl (s : State) : (s.setReady).dl = s.dl := rfl
@[simp] theorem State.setReady_wp (s : State) : (s.setReady).wp = s.wp := rfl
@[simp] theorem State.setReady_chtick (s : State) : (s.setReady).chtick = s.chtick := rfl
@[simp] theorem State.setReady_port (s : State) : (s.setReady).port = s.port := rfl

@[simp] theorem State.setRridx_voices (s : State) (r : BitVec 5) : (s.setRridx r).voices = s.voices := rfl
@[simp] theorem State.setRridx_rridx (s : State) (r : BitVec 5) : (s.setRridx r).rridx = r := rfl
@[simp] theorem State.setRridx_status (s : State) (r : BitVec 5) : (s.setRridx r).status = s.status := rfl
@[simp] theorem State.setRridx_cause (s : State) (r : BitVec 5) : (s.setRridx r).cause = s.cause := rfl
@[simp] theorem State.setRridx_patchSel (s : State) (r : BitVec 5) : (s.setRridx r).patchSel = s.patchSel := rfl
@[simp] theorem State.setRridx_mode1 (s : State) (r : BitVec 5) : (s.setRridx r).mode1 = s.mode1 := rfl
@[simp] theorem State.setRridx_mode2 (s : State) (r : BitVec 5) : (s.setRridx r).mode2 = s.mode2 := rfl
@[simp] theorem State.setRridx_mix (s : State) (r : BitVec 5) : (s.setRridx r).mix = s.mix := rfl
@[simp] theorem State.setRridx_outl (s : State) (r : BitVec 5) : (s.setRridx r).outl = s.outl := rfl
@[simp] theorem State.setRridx_outr (s : State) (r : BitVec 5) : (s.setRridx r).outr = s.outr := rfl
@[simp] theorem State.setRridx_dl (s : State) (r : BitVec 5) : (s.setRridx r).dl = s.dl := rfl
@[simp] theorem State.setRridx_wp (s : State) (r : BitVec 5) : (s.setRridx r).wp = s.wp := rfl
@[simp] theorem State.setRridx_chtick (s : State) (r : BitVec 5) : (s.setRridx r).chtick = s.chtick := rfl
@[simp] theorem State.setRridx_port (s : State) (r : BitVec 5) : (s.setRridx r).port = s.port := rfl

@[simp] theorem State.selectPatch_voices (s : State) (i : BitVec 8) : (s.selectPatch i).voices = s.voices := rfl
@[simp] theorem State.selectPatch_rridx (s : State) (i : BitVec 8) : (s.selectPatch i).rridx = s.rridx := rfl
@[simp] theorem State.selectPatch_status (s : State) (i : BitVec 8) : (s.selectPatch i).status = s.status := rfl
@[simp] theorem State.selectPatch_cause (s : State) (i : BitVec 8) : (s.selectPatch i).cause = s.cause := rfl
@[simp] theorem State.selectPatch_patchSel (s : State) (i : BitVec 8) : (s.selectPatch i).patchSel = ⟨true, i⟩ := rfl
@[simp] theorem State.selectPatch_mode1 (s : State) (i : BitVec 8) : (s.selectPatch i).mode1 = s.mode1 := rfl
@[simp] theorem State.selectPatch_mode2 (s : State) (i : BitVec 8) : (s.selectPatch i).mode2 = s.mode2 := rfl
@[simp] theorem State.selectPatch_mix (s : State) (i : BitVec 8) : (s.selectPatch i).mix = s.mix := rfl
@[simp] theorem State.selectPatch_outl (s : State) (i : BitVec 8) : (s.selectPatch i).outl = s.outl := rfl
@[simp] theorem State.selectPatch_outr (s : State) (i : BitVec 8) : (s.selectPatch i).outr = s.outr := rfl
@[simp] theorem State.selectPatch_dl (s : State) (i : BitVec 8) : (s.selectPatch i).dl = s.dl := rfl
@[simp] theorem State.selectPatch_wp (s : State) (i : BitVec 8) : (s.selectPatch i).wp = s.wp := rfl
@[simp] theorem State.selectPatch_chtick (s : State) (i : BitVec 8) : (s.selectPatch i).chtick = s.chtick := rfl
@[simp] theorem State.selectPatch_port (s : State) (i : BitVec 8) : (s.selectPatch i).port = s.port := rfl

@[simp] theorem State.setMode1_voices (s : State) (m : Mode) : (s.setMode1 m).voices = s.voices := rfl
@[simp] theorem State.setMode1_rridx (s : State) (m : Mode) : (s.setMode1 m).rridx = s.rridx := rfl
@[simp] theorem State.setMode1_status (s : State) (m : Mode) : (s.setMode1 m).status = s.status := rfl
@[simp] theorem State.setMode1_cause (s : State) (m : Mode) : (s.setMode1 m).cause = s.cause := rfl
@[simp] theorem State.setMode1_patchSel (s : State) (m : Mode) : (s.setMode1 m).patchSel = s.patchSel := rfl
@[simp] theorem State.setMode1_mode1 (s : State) (m : Mode) : (s.setMode1 m).mode1 = m := rfl
@[simp] theorem State.setMode1_mode2 (s : State) (m : Mode) : (s.setMode1 m).mode2 = s.mode2 := rfl
@[simp] theorem State.setMode1_mix (s : State) (m : Mode) : (s.setMode1 m).mix = s.mix := rfl
@[simp] theorem State.setMode1_outl (s : State) (m : Mode) : (s.setMode1 m).outl = s.outl := rfl
@[simp] theorem State.setMode1_outr (s : State) (m : Mode) : (s.setMode1 m).outr = s.outr := rfl
@[simp] theorem State.setMode1_dl (s : State) (m : Mode) : (s.setMode1 m).dl = s.dl := rfl
@[simp] theorem State.setMode1_wp (s : State) (m : Mode) : (s.setMode1 m).wp = s.wp := rfl
@[simp] theorem State.setMode1_chtick (s : State) (m : Mode) : (s.setMode1 m).chtick = s.chtick := rfl
@[simp] theorem State.setMode1_port (s : State) (m : Mode) : (s.setMode1 m).port = s.port := rfl

@[simp] theorem State.setMode2_voices (s : State) (m : Mode) : (s.setMode2 m).voices = s.voices := rfl
@[simp] theorem State.setMode2_rridx (s : State) (m : Mode) : (s.setMode2 m).rridx = s.rridx := rfl
@[simp] theorem State.setMode2_status (s : State) (m : Mode) : (s.setMode2 m).status = s.status := rfl
@[simp] theorem State.setMode2_cause (s : State) (m : Mode) : (s.setMode2 m).cause = s.cause := rfl
@[simp] theorem State.setMode2_patchSel (s : State) (m : Mode) : (s.setMode2 m).patchSel = s.patchSel := rfl
@[simp] theorem State.setMode2_mode1 (s : State) (m : Mode) : (s.setMode2 m).mode1 = s.mode1 := rfl
@[simp] theorem State.setMode2_mode2 (s : State) (m : Mode) : (s.setMode2 m).mode2 = m := rfl
@[simp] theorem State.setMode2_mix (s : State) (m : Mode) : (s.setMode2 m).mix = s.mix := rfl
@[simp] theorem State.setMode2_outl (s : State) (m : Mode) : (s.setMode2 m).outl = s.outl := rfl
@[simp] theorem State.setMode2_outr (s : State) (m : Mode) : (s.setMode2 m).outr = s.outr := rfl
@[simp] theorem State.setMode2_dl (s : State) (m : Mode) : (s.setMode2 m).dl = s.dl := rfl
@[simp] theorem State.setMode2_wp (s : State) (m : Mode) : (s.setMode2 m).wp = s.wp := rfl
@[simp] theorem State.setMode2_chtick (s : State) (m : Mode) : (s.setMode2 m).chtick = s.chtick := rfl
@[simp] theorem State.setMode2_port (s : State) (m : Mode) : (s.setMode2 m).port = s.port := rfl

@[simp] theorem State.setMix_voices (s : State) (a : Int) : (s.setMix a).voices = s.voices := rfl
@[simp] theorem State.setMix_rridx (s : State) (a : Int) : (s.setMix a).rridx = s.rridx := rfl
@[simp] theorem State.setMix_status (s : State) (a : Int) : (s.setMix a).status = s.status := rfl
@[simp] theorem State.setMix_cause (s : State) (a : Int) : (s.setMix a).cause = s.cause := rfl
@[simp] theorem State.setMix_patchSel (s : State) (a : Int) : (s.setMix a).patchSel = s.patchSel := rfl
@[simp] theorem State.setMix_mode1 (s : State) (a : Int) : (s.setMix a).mode1 = s.mode1 := rfl
@[simp] theorem State.setMix_mode2 (s : State) (a : Int) : (s.setMix a).mode2 = s.mode2 := rfl
@[simp] theorem State.setMix_mix (s : State) (a : Int) : (s.setMix a).mix = BitVec.ofInt 18 a := rfl
@[simp] theorem State.setMix_outl (s : State) (a : Int) : (s.setMix a).outl = s.outl := rfl
@[simp] theorem State.setMix_outr (s : State) (a : Int) : (s.setMix a).outr = s.outr := rfl
@[simp] theorem State.setMix_dl (s : State) (a : Int) : (s.setMix a).dl = s.dl := rfl
@[simp] theorem State.setMix_wp (s : State) (a : Int) : (s.setMix a).wp = s.wp := rfl
@[simp] theorem State.setMix_chtick (s : State) (a : Int) : (s.setMix a).chtick = s.chtick := rfl
@[simp] theorem State.setMix_port (s : State) (a : Int) : (s.setMix a).port = s.port := rfl

@[simp] theorem State.setOut_voices (s : State) (l r : Int) : (s.setOut l r).voices = s.voices := rfl
@[simp] theorem State.setOut_rridx (s : State) (l r : Int) : (s.setOut l r).rridx = s.rridx := rfl
@[simp] theorem State.setOut_status (s : State) (l r : Int) : (s.setOut l r).status = s.status := rfl
@[simp] theorem State.setOut_cause (s : State) (l r : Int) : (s.setOut l r).cause = s.cause := rfl
@[simp] theorem State.setOut_patchSel (s : State) (l r : Int) : (s.setOut l r).patchSel = s.patchSel := rfl
@[simp] theorem State.setOut_mode1 (s : State) (l r : Int) : (s.setOut l r).mode1 = s.mode1 := rfl
@[simp] theorem State.setOut_mode2 (s : State) (l r : Int) : (s.setOut l r).mode2 = s.mode2 := rfl
@[simp] theorem State.setOut_mix (s : State) (l r : Int) : (s.setOut l r).mix = s.mix := rfl
@[simp] theorem State.setOut_outl (s : State) (l r : Int) : (s.setOut l r).outl = BitVec.ofInt 20 l := rfl
@[simp] theorem State.setOut_outr (s : State) (l r : Int) : (s.setOut l r).outr = BitVec.ofInt 20 r := rfl
@[simp] theorem State.setOut_dl (s : State) (l r : Int) : (s.setOut l r).dl = s.dl := rfl
@[simp] theorem State.setOut_wp (s : State) (l r : Int) : (s.setOut l r).wp = s.wp := rfl
@[simp] theorem State.setOut_chtick (s : State) (l r : Int) : (s.setOut l r).chtick = s.chtick := rfl
@[simp] theorem State.setOut_port (s : State) (l r : Int) : (s.setOut l r).port = s.port := rfl

@[simp] theorem State.setLines_voices (s : State) (d : DelayLines) : (s.setLines d).voices = s.voices := rfl
@[simp] theorem State.setLines_rridx (s : State) (d : DelayLines) : (s.setLines d).rridx = s.rridx := rfl
@[simp] theorem State.setLines_status (s : State) (d : DelayLines) : (s.setLines d).status = s.status := rfl
@[simp] theorem State.setLines_cause (s : State) (d : DelayLines) : (s.setLines d).cause = s.cause := rfl
@[simp] theorem State.setLines_patchSel (s : State) (d : DelayLines) : (s.setLines d).patchSel = s.patchSel := rfl
@[simp] theorem State.setLines_mode1 (s : State) (d : DelayLines) : (s.setLines d).mode1 = s.mode1 := rfl
@[simp] theorem State.setLines_mode2 (s : State) (d : DelayLines) : (s.setLines d).mode2 = s.mode2 := rfl
@[simp] theorem State.setLines_mix (s : State) (d : DelayLines) : (s.setLines d).mix = s.mix := rfl
@[simp] theorem State.setLines_outl (s : State) (d : DelayLines) : (s.setLines d).outl = s.outl := rfl
@[simp] theorem State.setLines_outr (s : State) (d : DelayLines) : (s.setLines d).outr = s.outr := rfl
@[simp] theorem State.setLines_dl (s : State) (d : DelayLines) : (s.setLines d).dl = d := rfl
@[simp] theorem State.setLines_wp (s : State) (d : DelayLines) : (s.setLines d).wp = s.wp := rfl
@[simp] theorem State.setLines_chtick (s : State) (d : DelayLines) : (s.setLines d).chtick = s.chtick := rfl
@[simp] theorem State.setLines_port (s : State) (d : DelayLines) : (s.setLines d).port = s.port := rfl

@[simp] theorem State.advanceChorus_voices (s : State) (cap : Nat) : (s.advanceChorus cap).voices = s.voices := rfl
@[simp] theorem State.advanceChorus_rridx (s : State) (cap : Nat) : (s.advanceChorus cap).rridx = s.rridx := rfl
@[simp] theorem State.advanceChorus_status (s : State) (cap : Nat) : (s.advanceChorus cap).status = s.status := rfl
@[simp] theorem State.advanceChorus_cause (s : State) (cap : Nat) : (s.advanceChorus cap).cause = s.cause := rfl
@[simp] theorem State.advanceChorus_patchSel (s : State) (cap : Nat) : (s.advanceChorus cap).patchSel = s.patchSel := rfl
@[simp] theorem State.advanceChorus_mode1 (s : State) (cap : Nat) : (s.advanceChorus cap).mode1 = s.mode1 := rfl
@[simp] theorem State.advanceChorus_mode2 (s : State) (cap : Nat) : (s.advanceChorus cap).mode2 = s.mode2 := rfl
@[simp] theorem State.advanceChorus_mix (s : State) (cap : Nat) : (s.advanceChorus cap).mix = s.mix := rfl
@[simp] theorem State.advanceChorus_outl (s : State) (cap : Nat) : (s.advanceChorus cap).outl = s.outl := rfl
@[simp] theorem State.advanceChorus_outr (s : State) (cap : Nat) : (s.advanceChorus cap).outr = s.outr := rfl
@[simp] theorem State.advanceChorus_dl (s : State) (cap : Nat) : (s.advanceChorus cap).dl = s.dl := rfl
@[simp] theorem State.advanceChorus_wp (s : State) (cap : Nat) : (s.advanceChorus cap).wp =
    BitVec.ofNat 6 ((s.wp.toNat + 1) % cap) := rfl
@[simp] theorem State.advanceChorus_chtick (s : State) (cap : Nat) : (s.advanceChorus cap).chtick = s.chtick + 1#16 := rfl
@[simp] theorem State.advanceChorus_port (s : State) (cap : Nat) : (s.advanceChorus cap).port = s.port := rfl

@[simp] theorem State.setPort_voices (s : State) (p : List PortInput) : (s.setPort p).voices = s.voices := rfl
@[simp] theorem State.setPort_rridx (s : State) (p : List PortInput) : (s.setPort p).rridx = s.rridx := rfl
@[simp] theorem State.setPort_status (s : State) (p : List PortInput) : (s.setPort p).status = s.status := rfl
@[simp] theorem State.setPort_cause (s : State) (p : List PortInput) : (s.setPort p).cause = s.cause := rfl
@[simp] theorem State.setPort_patchSel (s : State) (p : List PortInput) : (s.setPort p).patchSel = s.patchSel := rfl
@[simp] theorem State.setPort_mode1 (s : State) (p : List PortInput) : (s.setPort p).mode1 = s.mode1 := rfl
@[simp] theorem State.setPort_mode2 (s : State) (p : List PortInput) : (s.setPort p).mode2 = s.mode2 := rfl
@[simp] theorem State.setPort_mix (s : State) (p : List PortInput) : (s.setPort p).mix = s.mix := rfl
@[simp] theorem State.setPort_outl (s : State) (p : List PortInput) : (s.setPort p).outl = s.outl := rfl
@[simp] theorem State.setPort_outr (s : State) (p : List PortInput) : (s.setPort p).outr = s.outr := rfl
@[simp] theorem State.setPort_dl (s : State) (p : List PortInput) : (s.setPort p).dl = s.dl := rfl
@[simp] theorem State.setPort_wp (s : State) (p : List PortInput) : (s.setPort p).wp = s.wp := rfl
@[simp] theorem State.setPort_chtick (s : State) (p : List PortInput) : (s.setPort p).chtick = s.chtick := rfl
@[simp] theorem State.setPort_port (s : State) (p : List PortInput) : (s.setPort p).port = p := rfl

@[simp] theorem raiseFault_voices (c : Cause) (s : State) : (raiseFault c s).voices = s.voices := rfl
@[simp] theorem raiseFault_rridx (c : Cause) (s : State) : (raiseFault c s).rridx = s.rridx := rfl
@[simp] theorem raiseFault_status (c : Cause) (s : State) : (raiseFault c s).status = ⟨s.status.ready, true⟩ := rfl
@[simp] theorem raiseFault_cause (c : Cause) (s : State) : (raiseFault c s).cause = causeCode c := rfl
@[simp] theorem raiseFault_patchSel (c : Cause) (s : State) : (raiseFault c s).patchSel = s.patchSel := rfl
@[simp] theorem raiseFault_mode1 (c : Cause) (s : State) : (raiseFault c s).mode1 = s.mode1 := rfl
@[simp] theorem raiseFault_mode2 (c : Cause) (s : State) : (raiseFault c s).mode2 = s.mode2 := rfl
@[simp] theorem raiseFault_mix (c : Cause) (s : State) : (raiseFault c s).mix = s.mix := rfl
@[simp] theorem raiseFault_outl (c : Cause) (s : State) : (raiseFault c s).outl = s.outl := rfl
@[simp] theorem raiseFault_outr (c : Cause) (s : State) : (raiseFault c s).outr = s.outr := rfl
@[simp] theorem raiseFault_dl (c : Cause) (s : State) : (raiseFault c s).dl = s.dl := rfl
@[simp] theorem raiseFault_wp (c : Cause) (s : State) : (raiseFault c s).wp = s.wp := rfl
@[simp] theorem raiseFault_chtick (c : Cause) (s : State) : (raiseFault c s).chtick = s.chtick := rfl
@[simp] theorem raiseFault_port (c : Cause) (s : State) : (raiseFault c s).port = s.port := rfl

@[simp] theorem resetInput_voices (s : State) : (resetInput s).voices = State.reset.voices := rfl
@[simp] theorem resetInput_rridx (s : State) : (resetInput s).rridx = State.reset.rridx := rfl
@[simp] theorem resetInput_status (s : State) : (resetInput s).status = State.reset.status := rfl
@[simp] theorem resetInput_cause (s : State) : (resetInput s).cause = State.reset.cause := rfl
@[simp] theorem resetInput_patchSel (s : State) : (resetInput s).patchSel = State.reset.patchSel := rfl
@[simp] theorem resetInput_mode1 (s : State) : (resetInput s).mode1 = State.reset.mode1 := rfl
@[simp] theorem resetInput_mode2 (s : State) : (resetInput s).mode2 = State.reset.mode2 := rfl
@[simp] theorem resetInput_mix (s : State) : (resetInput s).mix = State.reset.mix := rfl
@[simp] theorem resetInput_outl (s : State) : (resetInput s).outl = State.reset.outl := rfl
@[simp] theorem resetInput_outr (s : State) : (resetInput s).outr = State.reset.outr := rfl
@[simp] theorem resetInput_dl (s : State) : (resetInput s).dl = State.reset.dl := rfl
@[simp] theorem resetInput_wp (s : State) : (resetInput s).wp = State.reset.wp := rfl
@[simp] theorem resetInput_chtick (s : State) : (resetInput s).chtick = State.reset.chtick := rfl
@[simp] theorem resetInput_port (s : State) : (resetInput s).port = s.port := rfl

@[simp] theorem State.setReady_voice (s : State) (v : Fin 32) : (s.setReady).voice v = s.voice v := rfl
@[simp] theorem State.setRridx_voice (s : State) (r : BitVec 5) (v : Fin 32) : (s.setRridx r).voice v = s.voice v := rfl
@[simp] theorem State.selectPatch_voice (s : State) (i : BitVec 8) (v : Fin 32) : (s.selectPatch i).voice v = s.voice v := rfl
@[simp] theorem State.setMode1_voice (s : State) (m : Mode) (v : Fin 32) : (s.setMode1 m).voice v = s.voice v := rfl
@[simp] theorem State.setMode2_voice (s : State) (m : Mode) (v : Fin 32) : (s.setMode2 m).voice v = s.voice v := rfl
@[simp] theorem State.setMix_voice (s : State) (a : Int) (v : Fin 32) : (s.setMix a).voice v = s.voice v := rfl
@[simp] theorem State.setOut_voice (s : State) (l r : Int) (v : Fin 32) : (s.setOut l r).voice v = s.voice v := rfl
@[simp] theorem State.setLines_voice (s : State) (d : DelayLines) (v : Fin 32) : (s.setLines d).voice v = s.voice v := rfl
@[simp] theorem State.advanceChorus_voice (s : State) (cap : Nat) (v : Fin 32) : (s.advanceChorus cap).voice v = s.voice v := rfl
@[simp] theorem State.setPort_voice (s : State) (p : List PortInput) (v : Fin 32) : (s.setPort p).voice v = s.voice v := rfl
@[simp] theorem raiseFault_voice (c : Cause) (s : State) (v : Fin 32) : (raiseFault c s).voice v = s.voice v := rfl

end Sys2Proof.Machine
end

