-- ==== Sys2Proof/Laws/Voice.lean ====
section
/-! SUPPORT. One lemma for each field of a voice and of an operator after each of their updates. -/

namespace Sys2Proof.Machine

@[simp] theorem phaseStep_stage (o : OpRegs) : (phaseStep o).stage = o.stage := rfl
@[simp] theorem phaseStep_ea (o : OpRegs) : (phaseStep o).ea = o.ea := rfl
@[simp] theorem phaseStep_eax (o : OpRegs) : (phaseStep o).eax = o.eax := rfl
@[simp] theorem phaseStep_eao (o : OpRegs) : (phaseStep o).eao = o.eao := rfl
@[simp] theorem phaseStep_rs (o : OpRegs) : (phaseStep o).rs = o.rs := rfl
@[simp] theorem phaseStep_rsx (o : OpRegs) : (phaseStep o).rsx = o.rsx := rfl
@[simp] theorem phaseStep_ar (o : OpRegs) : (phaseStep o).ar = o.ar := rfl
@[simp] theorem phaseStep_dr (o : OpRegs) : (phaseStep o).dr = o.dr := rfl
@[simp] theorem phaseStep_rr (o : OpRegs) : (phaseStep o).rr = o.rr := rfl
@[simp] theorem phaseStep_rra (o : OpRegs) : (phaseStep o).rra = o.rra := rfl
@[simp] theorem phaseStep_pa (o : OpRegs) : (phaseStep o).pa = o.pa + o.cw := rfl
@[simp] theorem phaseStep_pae (o : OpRegs) : (phaseStep o).pae = (o.pa + o.cw).extractLsb' 18 10 := rfl
@[simp] theorem phaseStep_cw (o : OpRegs) : (phaseStep o).cw = o.cw := rfl
@[simp] theorem phaseStep_amp (o : OpRegs) : (phaseStep o).amp = o.amp := rfl

@[simp] theorem ampStep_stage (eg : BitVec 12) (vel : BitVec 7) (o : OpRegs) : (ampStep eg vel o).stage = o.stage := rfl
@[simp] theorem ampStep_ea (eg : BitVec 12) (vel : BitVec 7) (o : OpRegs) : (ampStep eg vel o).ea = o.ea := rfl
@[simp] theorem ampStep_eax (eg : BitVec 12) (vel : BitVec 7) (o : OpRegs) : (ampStep eg vel o).eax = o.eax := rfl
@[simp] theorem ampStep_eao (eg : BitVec 12) (vel : BitVec 7) (o : OpRegs) : (ampStep eg vel o).eao = o.eao := rfl
@[simp] theorem ampStep_rs (eg : BitVec 12) (vel : BitVec 7) (o : OpRegs) : (ampStep eg vel o).rs = o.rs := rfl
@[simp] theorem ampStep_rsx (eg : BitVec 12) (vel : BitVec 7) (o : OpRegs) : (ampStep eg vel o).rsx = o.rsx := rfl
@[simp] theorem ampStep_ar (eg : BitVec 12) (vel : BitVec 7) (o : OpRegs) : (ampStep eg vel o).ar = o.ar := rfl
@[simp] theorem ampStep_dr (eg : BitVec 12) (vel : BitVec 7) (o : OpRegs) : (ampStep eg vel o).dr = o.dr := rfl
@[simp] theorem ampStep_rr (eg : BitVec 12) (vel : BitVec 7) (o : OpRegs) : (ampStep eg vel o).rr = o.rr := rfl
@[simp] theorem ampStep_rra (eg : BitVec 12) (vel : BitVec 7) (o : OpRegs) : (ampStep eg vel o).rra = o.rra := rfl
@[simp] theorem ampStep_pa (eg : BitVec 12) (vel : BitVec 7) (o : OpRegs) : (ampStep eg vel o).pa = o.pa := rfl
@[simp] theorem ampStep_pae (eg : BitVec 12) (vel : BitVec 7) (o : OpRegs) : (ampStep eg vel o).pae = o.pae := rfl
@[simp] theorem ampStep_cw (eg : BitVec 12) (vel : BitVec 7) (o : OpRegs) : (ampStep eg vel o).cw = o.cw := rfl
@[simp] theorem ampStep_amp (eg : BitVec 12) (vel : BitVec 7) (o : OpRegs) : (ampStep eg vel o).amp = BitVec.ofNat 12 (min ((invLevel o.eax).toNat + eg.toNat + vel.toNat <<< 3) 4095) := rfl

@[simp] theorem egStep1_stage (P : Params) (o : OpRegs) : (egStep1 P o).stage = .attack := rfl
@[simp] theorem egStep1_ea (P : Params) (o : OpRegs) : (egStep1 P o).ea = P.eaInit := rfl
@[simp] theorem egStep1_eax (P : Params) (o : OpRegs) : (egStep1 P o).eax = P.eaInit := rfl
@[simp] theorem egStep1_eao (P : Params) (o : OpRegs) : (egStep1 P o).eao = o.eao := rfl
@[simp] theorem egStep1_rs (P : Params) (o : OpRegs) : (egStep1 P o).rs = o.rs := rfl
@[simp] theorem egStep1_rsx (P : Params) (o : OpRegs) : (egStep1 P o).rsx = o.rsx := rfl
@[simp] theorem egStep1_ar (P : Params) (o : OpRegs) : (egStep1 P o).ar = o.ar := rfl
@[simp] theorem egStep1_dr (P : Params) (o : OpRegs) : (egStep1 P o).dr = o.dr := rfl
@[simp] theorem egStep1_rr (P : Params) (o : OpRegs) : (egStep1 P o).rr = o.rr := rfl
@[simp] theorem egStep1_rra (P : Params) (o : OpRegs) : (egStep1 P o).rra = o.rra := rfl
@[simp] theorem egStep1_pa (P : Params) (o : OpRegs) : (egStep1 P o).pa = o.pa := rfl
@[simp] theorem egStep1_pae (P : Params) (o : OpRegs) : (egStep1 P o).pae = o.pae := rfl
@[simp] theorem egStep1_cw (P : Params) (o : OpRegs) : (egStep1 P o).cw = o.cw := rfl
@[simp] theorem egStep1_amp (P : Params) (o : OpRegs) : (egStep1 P o).amp = o.amp := rfl

@[simp] theorem egStep5_stage (o : OpRegs) : (egStep5 o).stage = .idle := rfl
@[simp] theorem egStep5_ea (o : OpRegs) : (egStep5 o).ea = o.ea := rfl
@[simp] theorem egStep5_eax (o : OpRegs) : (egStep5 o).eax = o.eax := rfl
@[simp] theorem egStep5_eao (o : OpRegs) : (egStep5 o).eao = o.eao := rfl
@[simp] theorem egStep5_rs (o : OpRegs) : (egStep5 o).rs = o.ea := rfl
@[simp] theorem egStep5_rsx (o : OpRegs) : (egStep5 o).rsx = o.eax := rfl
@[simp] theorem egStep5_ar (o : OpRegs) : (egStep5 o).ar = o.ar := rfl
@[simp] theorem egStep5_dr (o : OpRegs) : (egStep5 o).dr = o.dr := rfl
@[simp] theorem egStep5_rr (o : OpRegs) : (egStep5 o).rr = o.rr := rfl
@[simp] theorem egStep5_rra (o : OpRegs) : (egStep5 o).rra = o.rr := rfl
@[simp] theorem egStep5_pa (o : OpRegs) : (egStep5 o).pa = o.pa := rfl
@[simp] theorem egStep5_pae (o : OpRegs) : (egStep5 o).pae = o.pae := rfl
@[simp] theorem egStep5_cw (o : OpRegs) : (egStep5 o).cw = o.cw := rfl
@[simp] theorem egStep5_amp (o : OpRegs) : (egStep5 o).amp = o.amp := rfl

@[simp] theorem egStepLast_stage (o : OpRegs) : (egStepLast o).stage = o.stage := rfl
@[simp] theorem egStepLast_ea (o : OpRegs) : (egStepLast o).ea = o.ea := rfl
@[simp] theorem egStepLast_eax (o : OpRegs) : (egStepLast o).eax = o.eax := rfl
@[simp] theorem egStepLast_eao (o : OpRegs) : (egStepLast o).eao = o.ea := rfl
@[simp] theorem egStepLast_rs (o : OpRegs) : (egStepLast o).rs = o.rs := rfl
@[simp] theorem egStepLast_rsx (o : OpRegs) : (egStepLast o).rsx = o.rsx := rfl
@[simp] theorem egStepLast_ar (o : OpRegs) : (egStepLast o).ar = o.ar := rfl
@[simp] theorem egStepLast_dr (o : OpRegs) : (egStepLast o).dr = o.dr := rfl
@[simp] theorem egStepLast_rr (o : OpRegs) : (egStepLast o).rr = o.rr := rfl
@[simp] theorem egStepLast_rra (o : OpRegs) : (egStepLast o).rra = o.rra := rfl
@[simp] theorem egStepLast_pa (o : OpRegs) : (egStepLast o).pa = o.pa := rfl
@[simp] theorem egStepLast_pae (o : OpRegs) : (egStepLast o).pae = o.pae := rfl
@[simp] theorem egStepLast_cw (o : OpRegs) : (egStepLast o).cw = o.cw := rfl
@[simp] theorem egStepLast_amp (o : OpRegs) : (egStepLast o).amp = o.amp := rfl

@[simp] theorem resetOp_stage (o : OpRegs) : (resetOp o).stage = .idle := rfl
@[simp] theorem resetOp_ea (o : OpRegs) : (resetOp o).ea = 0#20 := rfl
@[simp] theorem resetOp_eax (o : OpRegs) : (resetOp o).eax = 0#20 := rfl
@[simp] theorem resetOp_eao (o : OpRegs) : (resetOp o).eao = 0#20 := rfl
@[simp] theorem resetOp_rs (o : OpRegs) : (resetOp o).rs = 0#20 := rfl
@[simp] theorem resetOp_rsx (o : OpRegs) : (resetOp o).rsx = 0#20 := rfl
@[simp] theorem resetOp_ar (o : OpRegs) : (resetOp o).ar = o.ar := rfl
@[simp] theorem resetOp_dr (o : OpRegs) : (resetOp o).dr = o.dr := rfl
@[simp] theorem resetOp_rr (o : OpRegs) : (resetOp o).rr = o.rr := rfl
@[simp] theorem resetOp_rra (o : OpRegs) : (resetOp o).rra = 0#20 := rfl
@[simp] theorem resetOp_pa (o : OpRegs) : (resetOp o).pa = 0#28 := rfl
@[simp] theorem resetOp_pae (o : OpRegs) : (resetOp o).pae = 0#10 := rfl
@[simp] theorem resetOp_cw (o : OpRegs) : (resetOp o).cw = o.cw := rfl
@[simp] theorem resetOp_amp (o : OpRegs) : (resetOp o).amp = 4095#12 := rfl

@[simp] theorem loadOp_stage (k : KeyParams) (o : OpRegs) : (loadOp k o).stage = o.stage := rfl
@[simp] theorem loadOp_ea (k : KeyParams) (o : OpRegs) : (loadOp k o).ea = o.ea := rfl
@[simp] theorem loadOp_eax (k : KeyParams) (o : OpRegs) : (loadOp k o).eax = o.eax := rfl
@[simp] theorem loadOp_eao (k : KeyParams) (o : OpRegs) : (loadOp k o).eao = o.eao := rfl
@[simp] theorem loadOp_rs (k : KeyParams) (o : OpRegs) : (loadOp k o).rs = o.rs := rfl
@[simp] theorem loadOp_rsx (k : KeyParams) (o : OpRegs) : (loadOp k o).rsx = o.rsx := rfl
@[simp] theorem loadOp_ar (k : KeyParams) (o : OpRegs) : (loadOp k o).ar = k.ar := rfl
@[simp] theorem loadOp_dr (k : KeyParams) (o : OpRegs) : (loadOp k o).dr = k.dr := rfl
@[simp] theorem loadOp_rr (k : KeyParams) (o : OpRegs) : (loadOp k o).rr = k.rr := rfl
@[simp] theorem loadOp_rra (k : KeyParams) (o : OpRegs) : (loadOp k o).rra = o.rra := rfl
@[simp] theorem loadOp_pa (k : KeyParams) (o : OpRegs) : (loadOp k o).pa = o.pa := rfl
@[simp] theorem loadOp_pae (k : KeyParams) (o : OpRegs) : (loadOp k o).pae = o.pae := rfl
@[simp] theorem loadOp_cw (k : KeyParams) (o : OpRegs) : (loadOp k o).cw = k.cw := rfl
@[simp] theorem loadOp_amp (k : KeyParams) (o : OpRegs) : (loadOp k o).amp = o.amp := rfl

@[simp] theorem gateLatch_note (v : Voice) : (gateLatch v).note = v.note := rfl
@[simp] theorem gateLatch_vel (v : Voice) : (gateLatch v).vel = v.vel := rfl
@[simp] theorem gateLatch_noteOn (v : Voice) : (gateLatch v).noteOn = v.noteOn := rfl
@[simp] theorem gateLatch_sustaining (v : Voice) : (gateLatch v).sustaining = v.sustaining := rfl
@[simp] theorem gateLatch_gateNew (v : Voice) : (gateLatch v).gateNew = v.gateNew := rfl
@[simp] theorem gateLatch_gate (v : Voice) : (gateLatch v).gate = v.gateNew := rfl
@[simp] theorem gateLatch_gateOld (v : Voice) : (gateLatch v).gateOld = v.gate := rfl
@[simp] theorem gateLatch_m1old1 (v : Voice) : (gateLatch v).m1old1 = v.m1old1 := rfl
@[simp] theorem gateLatch_m1old2 (v : Voice) : (gateLatch v).m1old2 = v.m1old2 := rfl
@[simp] theorem gateLatch_m2old1 (v : Voice) : (gateLatch v).m2old1 = v.m2old1 := rfl
@[simp] theorem gateLatch_m2old2 (v : Voice) : (gateLatch v).m2old2 = v.m2old2 := rfl
@[simp] theorem gateLatch_eg (v : Voice) : (gateLatch v).eg = v.eg := rfl
@[simp] theorem gateLatch_op (v : Voice) : (gateLatch v).op = v.op := rfl

@[simp] theorem pushHistory_note (m n : Int) (v : Voice) : (pushHistory m n v).note = v.note := rfl
@[simp] theorem pushHistory_vel (m n : Int) (v : Voice) : (pushHistory m n v).vel = v.vel := rfl
@[simp] theorem pushHistory_noteOn (m n : Int) (v : Voice) : (pushHistory m n v).noteOn = v.noteOn := rfl
@[simp] theorem pushHistory_sustaining (m n : Int) (v : Voice) : (pushHistory m n v).sustaining = v.sustaining := rfl
@[simp] theorem pushHistory_gateNew (m n : Int) (v : Voice) : (pushHistory m n v).gateNew = v.gateNew := rfl
@[simp] theorem pushHistory_gate (m n : Int) (v : Voice) : (pushHistory m n v).gate = v.gate := rfl
@[simp] theorem pushHistory_gateOld (m n : Int) (v : Voice) : (pushHistory m n v).gateOld = v.gateOld := rfl
@[simp] theorem pushHistory_m1old1 (m n : Int) (v : Voice) : (pushHistory m n v).m1old1 = BitVec.ofInt 14 m := rfl
@[simp] theorem pushHistory_m1old2 (m n : Int) (v : Voice) : (pushHistory m n v).m1old2 = v.m1old1 := rfl
@[simp] theorem pushHistory_m2old1 (m n : Int) (v : Voice) : (pushHistory m n v).m2old1 = BitVec.ofInt 14 n := rfl
@[simp] theorem pushHistory_m2old2 (m n : Int) (v : Voice) : (pushHistory m n v).m2old2 = v.m2old1 := rfl
@[simp] theorem pushHistory_eg (m n : Int) (v : Voice) : (pushHistory m n v).eg = v.eg := rfl
@[simp] theorem pushHistory_op (m n : Int) (v : Voice) : (pushHistory m n v).op = v.op := rfl

@[simp] theorem envelopes_note (P : Params) (v : Voice) : (envelopes P v).note = v.note := rfl
@[simp] theorem envelopes_vel (P : Params) (v : Voice) : (envelopes P v).vel = v.vel := rfl
@[simp] theorem envelopes_noteOn (P : Params) (v : Voice) : (envelopes P v).noteOn = v.noteOn := rfl
@[simp] theorem envelopes_sustaining (P : Params) (v : Voice) : (envelopes P v).sustaining = v.sustaining := rfl
@[simp] theorem envelopes_gateNew (P : Params) (v : Voice) : (envelopes P v).gateNew = v.gateNew := rfl
@[simp] theorem envelopes_gate (P : Params) (v : Voice) : (envelopes P v).gate = v.gate := rfl
@[simp] theorem envelopes_gateOld (P : Params) (v : Voice) : (envelopes P v).gateOld = v.gateOld := rfl
@[simp] theorem envelopes_m1old1 (P : Params) (v : Voice) : (envelopes P v).m1old1 = v.m1old1 := rfl
@[simp] theorem envelopes_m1old2 (P : Params) (v : Voice) : (envelopes P v).m1old2 = v.m1old2 := rfl
@[simp] theorem envelopes_m2old1 (P : Params) (v : Voice) : (envelopes P v).m2old1 = v.m2old1 := rfl
@[simp] theorem envelopes_m2old2 (P : Params) (v : Voice) : (envelopes P v).m2old2 = v.m2old2 := rfl
@[simp] theorem envelopes_eg (P : Params) (v : Voice) : (envelopes P v).eg = v.eg := rfl
@[simp] theorem envelopes_op (P : Params) (v : Voice) : (envelopes P v).op = v.op.map (egStep P v.gateOld v.gate) := rfl

@[simp] theorem phases_note (v : Voice) : (phases v).note = v.note := rfl
@[simp] theorem phases_vel (v : Voice) : (phases v).vel = v.vel := rfl
@[simp] theorem phases_noteOn (v : Voice) : (phases v).noteOn = v.noteOn := rfl
@[simp] theorem phases_sustaining (v : Voice) : (phases v).sustaining = v.sustaining := rfl
@[simp] theorem phases_gateNew (v : Voice) : (phases v).gateNew = v.gateNew := rfl
@[simp] theorem phases_gate (v : Voice) : (phases v).gate = v.gate := rfl
@[simp] theorem phases_gateOld (v : Voice) : (phases v).gateOld = v.gateOld := rfl
@[simp] theorem phases_m1old1 (v : Voice) : (phases v).m1old1 = v.m1old1 := rfl
@[simp] theorem phases_m1old2 (v : Voice) : (phases v).m1old2 = v.m1old2 := rfl
@[simp] theorem phases_m2old1 (v : Voice) : (phases v).m2old1 = v.m2old1 := rfl
@[simp] theorem phases_m2old2 (v : Voice) : (phases v).m2old2 = v.m2old2 := rfl
@[simp] theorem phases_eg (v : Voice) : (phases v).eg = v.eg := rfl
@[simp] theorem phases_op (v : Voice) : (phases v).op = v.op.map phaseStep := rfl

@[simp] theorem amplitudes_note (v : Voice) : (amplitudes v).note = v.note := rfl
@[simp] theorem amplitudes_vel (v : Voice) : (amplitudes v).vel = v.vel := rfl
@[simp] theorem amplitudes_noteOn (v : Voice) : (amplitudes v).noteOn = v.noteOn := rfl
@[simp] theorem amplitudes_sustaining (v : Voice) : (amplitudes v).sustaining = v.sustaining := rfl
@[simp] theorem amplitudes_gateNew (v : Voice) : (amplitudes v).gateNew = v.gateNew := rfl
@[simp] theorem amplitudes_gate (v : Voice) : (amplitudes v).gate = v.gate := rfl
@[simp] theorem amplitudes_gateOld (v : Voice) : (amplitudes v).gateOld = v.gateOld := rfl
@[simp] theorem amplitudes_m1old1 (v : Voice) : (amplitudes v).m1old1 = v.m1old1 := rfl
@[simp] theorem amplitudes_m1old2 (v : Voice) : (amplitudes v).m1old2 = v.m1old2 := rfl
@[simp] theorem amplitudes_m2old1 (v : Voice) : (amplitudes v).m2old1 = v.m2old1 := rfl
@[simp] theorem amplitudes_m2old2 (v : Voice) : (amplitudes v).m2old2 = v.m2old2 := rfl
@[simp] theorem amplitudes_eg (v : Voice) : (amplitudes v).eg = v.eg := rfl
@[simp] theorem amplitudes_op (v : Voice) : (amplitudes v).op = Quad.ofFn fun i => ampStep (v.eg.get i) v.vel (v.op.get i) := rfl

@[simp] theorem pedalFlags_note (down : Bool) (v : Voice) : (pedalFlags down v).note = v.note := rfl
@[simp] theorem pedalFlags_vel (down : Bool) (v : Voice) : (pedalFlags down v).vel = v.vel := rfl
@[simp] theorem pedalFlags_noteOn (down : Bool) (v : Voice) : (pedalFlags down v).noteOn = v.noteOn := rfl
@[simp] theorem pedalFlags_sustaining (down : Bool) (v : Voice) : (pedalFlags down v).sustaining = down := rfl
@[simp] theorem pedalFlags_gateNew (down : Bool) (v : Voice) : (pedalFlags down v).gateNew = (v.gateNew && (down || v.noteOn)) := rfl
@[simp] theorem pedalFlags_gate (down : Bool) (v : Voice) : (pedalFlags down v).gate = v.gate := rfl
@[simp] theorem pedalFlags_gateOld (down : Bool) (v : Voice) : (pedalFlags down v).gateOld = v.gateOld := rfl
@[simp] theorem pedalFlags_m1old1 (down : Bool) (v : Voice) : (pedalFlags down v).m1old1 = v.m1old1 := rfl
@[simp] theorem pedalFlags_m1old2 (down : Bool) (v : Voice) : (pedalFlags down v).m1old2 = v.m1old2 := rfl
@[simp] theorem pedalFlags_m2old1 (down : Bool) (v : Voice) : (pedalFlags down v).m2old1 = v.m2old1 := rfl
@[simp] theorem pedalFlags_m2old2 (down : Bool) (v : Voice) : (pedalFlags down v).m2old2 = v.m2old2 := rfl
@[simp] theorem pedalFlags_eg (down : Bool) (v : Voice) : (pedalFlags down v).eg = v.eg := rfl
@[simp] theorem pedalFlags_op (down : Bool) (v : Voice) : (pedalFlags down v).op = v.op := rfl

@[simp] theorem resetVoice_note (v : Voice) : (resetVoice v).note = v.note := rfl
@[simp] theorem resetVoice_vel (v : Voice) : (resetVoice v).vel = v.vel := rfl
@[simp] theorem resetVoice_noteOn (v : Voice) : (resetVoice v).noteOn = v.noteOn := rfl
@[simp] theorem resetVoice_sustaining (v : Voice) : (resetVoice v).sustaining = v.sustaining := rfl
@[simp] theorem resetVoice_gateNew (v : Voice) : (resetVoice v).gateNew = v.gateNew := rfl
@[simp] theorem resetVoice_gate (v : Voice) : (resetVoice v).gate = false := rfl
@[simp] theorem resetVoice_gateOld (v : Voice) : (resetVoice v).gateOld = false := rfl
@[simp] theorem resetVoice_m1old1 (v : Voice) : (resetVoice v).m1old1 = 0#14 := rfl
@[simp] theorem resetVoice_m1old2 (v : Voice) : (resetVoice v).m1old2 = 0#14 := rfl
@[simp] theorem resetVoice_m2old1 (v : Voice) : (resetVoice v).m2old1 = 0#14 := rfl
@[simp] theorem resetVoice_m2old2 (v : Voice) : (resetVoice v).m2old2 = 0#14 := rfl
@[simp] theorem resetVoice_eg (v : Voice) : (resetVoice v).eg = v.eg := rfl
@[simp] theorem resetVoice_op (v : Voice) : (resetVoice v).op = v.op.map resetOp := rfl

@[simp] theorem loadKeyParams_note (k : Quad KeyParams) (v : Voice) : (loadKeyParams k v).note = v.note := rfl
@[simp] theorem loadKeyParams_vel (k : Quad KeyParams) (v : Voice) : (loadKeyParams k v).vel = v.vel := rfl
@[simp] theorem loadKeyParams_noteOn (k : Quad KeyParams) (v : Voice) : (loadKeyParams k v).noteOn = v.noteOn := rfl
@[simp] theorem loadKeyParams_sustaining (k : Quad KeyParams) (v : Voice) : (loadKeyParams k v).sustaining = v.sustaining := rfl
@[simp] theorem loadKeyParams_gateNew (k : Quad KeyParams) (v : Voice) : (loadKeyParams k v).gateNew = v.gateNew := rfl
@[simp] theorem loadKeyParams_gate (k : Quad KeyParams) (v : Voice) : (loadKeyParams k v).gate = v.gate := rfl
@[simp] theorem loadKeyParams_gateOld (k : Quad KeyParams) (v : Voice) : (loadKeyParams k v).gateOld = v.gateOld := rfl
@[simp] theorem loadKeyParams_m1old1 (k : Quad KeyParams) (v : Voice) : (loadKeyParams k v).m1old1 = v.m1old1 := rfl
@[simp] theorem loadKeyParams_m1old2 (k : Quad KeyParams) (v : Voice) : (loadKeyParams k v).m1old2 = v.m1old2 := rfl
@[simp] theorem loadKeyParams_m2old1 (k : Quad KeyParams) (v : Voice) : (loadKeyParams k v).m2old1 = v.m2old1 := rfl
@[simp] theorem loadKeyParams_m2old2 (k : Quad KeyParams) (v : Voice) : (loadKeyParams k v).m2old2 = v.m2old2 := rfl
@[simp] theorem loadKeyParams_eg (k : Quad KeyParams) (v : Voice) : (loadKeyParams k v).eg = k.map KeyParams.eg := rfl
@[simp] theorem loadKeyParams_op (k : Quad KeyParams) (v : Voice) : (loadKeyParams k v).op = Quad.ofFn fun i => loadOp (k.get i) (v.op.get i) := rfl

@[simp] theorem triggerVoice_note (k : Quad KeyParams) (n l : BitVec 7) (v : Voice) : (triggerVoice k n l v).note = n := rfl
@[simp] theorem triggerVoice_vel (k : Quad KeyParams) (n l : BitVec 7) (v : Voice) : (triggerVoice k n l v).vel = l := rfl
@[simp] theorem triggerVoice_noteOn (k : Quad KeyParams) (n l : BitVec 7) (v : Voice) : (triggerVoice k n l v).noteOn = true := rfl
@[simp] theorem triggerVoice_sustaining (k : Quad KeyParams) (n l : BitVec 7) (v : Voice) : (triggerVoice k n l v).sustaining = v.sustaining := rfl
@[simp] theorem triggerVoice_gateNew (k : Quad KeyParams) (n l : BitVec 7) (v : Voice) : (triggerVoice k n l v).gateNew = true := rfl
@[simp] theorem triggerVoice_gate (k : Quad KeyParams) (n l : BitVec 7) (v : Voice) : (triggerVoice k n l v).gate = false := rfl
@[simp] theorem triggerVoice_gateOld (k : Quad KeyParams) (n l : BitVec 7) (v : Voice) : (triggerVoice k n l v).gateOld = false := rfl
@[simp] theorem triggerVoice_m1old1 (k : Quad KeyParams) (n l : BitVec 7) (v : Voice) : (triggerVoice k n l v).m1old1 = 0#14 := rfl
@[simp] theorem triggerVoice_m1old2 (k : Quad KeyParams) (n l : BitVec 7) (v : Voice) : (triggerVoice k n l v).m1old2 = 0#14 := rfl
@[simp] theorem triggerVoice_m2old1 (k : Quad KeyParams) (n l : BitVec 7) (v : Voice) : (triggerVoice k n l v).m2old1 = 0#14 := rfl
@[simp] theorem triggerVoice_m2old2 (k : Quad KeyParams) (n l : BitVec 7) (v : Voice) : (triggerVoice k n l v).m2old2 = 0#14 := rfl
@[simp] theorem triggerVoice_eg (k : Quad KeyParams) (n l : BitVec 7) (v : Voice) : (triggerVoice k n l v).eg = k.map KeyParams.eg := rfl
@[simp] theorem triggerVoice_op (k : Quad KeyParams) (n l : BitVec 7) (v : Voice) : (triggerVoice k n l v).op = Quad.ofFn fun i => loadOp (k.get i) ((v.op.map resetOp).get i) := rfl

end Sys2Proof.Machine
end

