-- ==== Sys2Proof/Laws/Ops.lean ====
section
/-! SUPPORT. What each shared operation can do, said once: the four-operator container, the voice file, the checks
before a command, each command, and the step. -/

namespace Sys2Proof

@[simp] theorem Quad.get_map {α β : Type} (f : α → β) (q : Quad α) (i : OpIdx) : (q.map f).get i = f (q.get i) := by
  cases i <;> rfl

@[simp] theorem Quad.get_ofFn {α : Type} (f : OpIdx → α) (i : OpIdx) : (Quad.ofFn f).get i = f i := by
  cases i <;> rfl

@[simp] theorem Quad.get_all {α : Type} (x : α) (i : OpIdx) : (Quad.all x).get i = x := by cases i <;> rfl

theorem Quad.ext_get {α : Type} {p q : Quad α} (h : ∀ i, p.get i = q.get i) : p = q := by
  cases p; cases q
  simp only [Quad.mk.injEq]
  exact ⟨h .c1, h .c2, h .m1, h .m2⟩

end Sys2Proof

namespace Sys2Proof.Machine

@[simp] theorem mapVoices_get (f : Voice → Voice) (vs : Vector Voice 32) (v : Nat) (h : v < 32) :
    (mapVoices f vs)[v] = f vs[v] := by
  simp [mapVoices]

@[simp] theorem State.mapVoice_voice (s : State) (f : Voice → Voice) (v : Fin 32) :
    (s.mapVoice f).voice v = f (s.voice v) := by
  simp [State.voice]

@[simp] theorem State.setVoice_voice_same (s : State) (v : Fin 32) (x : Voice) : (s.setVoice v x).voice v = x := by
  simp [State.voice]

theorem State.setVoice_voice_ne (s : State) (v w : Fin 32) (x : Voice) (h : w ≠ v) :
    (s.setVoice v x).voice w = s.voice w := by
  have : v.val ≠ w.val := fun e => h (Fin.ext e.symm)
  simp [State.voice, Vector.getElem_set_ne _ _ this]

@[simp] theorem State.reset_voice (v : Fin 32) : State.reset.voice v = Voice.reset := by
  simp [State.voice, State.reset, State.resetWith]

theorem unlessHalted_halted {s : State} (h : s.status.fault = true) (body : State → Result) :
    unlessHalted s body = .next s := by simp [unlessHalted, h]

theorem unlessHalted_going {s : State} (h : s.status.fault = false) (body : State → Result) :
    unlessHalted s body = body s := by simp [unlessHalted, h]

theorem whenReady_halted {s : State} (h : s.status.fault = true) (body : State → Result) :
    whenReady s body = .next s := unlessHalted_halted h _

theorem whenReady_noTables {s : State} (h : s.status.fault = false) (hr : s.status.ready = false)
    (body : State → Result) : whenReady s body = .next (raiseFault .noTables s) := by
  simp [whenReady, unlessHalted, h, hr]

theorem whenReady_running {s : State} (h : s.status.fault = false) (hr : s.status.ready = true)
    (body : State → Result) : whenReady s body = body s := by
  simp [whenReady, unlessHalted, h, hr]

/-- What each command does once the checks of rule R120 have passed. -/
def effect : Instr → State → State
  | .init, s => s.setReady
  | .selpatch idx, s => selpatch params idx s
  | .noteon note vel, s => noteon params note vel s
  | .noteoff note, s => noteoff params note s
  | .sustain down, s => s.mapVoice (pedalFlags down)
  | .tick, s => tick params s
  | .chorus, s => chorus params s
  | .setmode st m, s => s.setModeOf st m

/-- Everything a command can do: nothing while halted, `E_NOTABLES` before INIT, else its effect. -/
theorem exec_eq (i : Instr) (s : State) :
    exec i s =
      .next (if s.status.fault = true then s
        else if s.status.ready = true ∨ i = .init then effect i s else raiseFault .noTables s) := by
  rcases hf : s.status.fault with _ | _ <;> rcases hr : s.status.ready with _ | _ <;>
    cases i <;> simp [exec, execInit, execSelpatch, execNoteon, execNoteoff, execSustain, execTick, execChorus,
      execSetmode, whenReady, unlessHalted, hf, hr, effect]

@[simp] theorem State.setModeOf_voices (s : State) (st : StackId) (m : Mode) : (s.setModeOf st m).voices = s.voices := by
  cases st <;> rfl

@[simp] theorem State.setModeOf_rridx (s : State) (st : StackId) (m : Mode) : (s.setModeOf st m).rridx = s.rridx := by
  cases st <;> rfl

@[simp] theorem State.setModeOf_status (s : State) (st : StackId) (m : Mode) : (s.setModeOf st m).status = s.status := by
  cases st <;> rfl

@[simp] theorem State.setModeOf_cause (s : State) (st : StackId) (m : Mode) : (s.setModeOf st m).cause = s.cause := by
  cases st <;> rfl

@[simp] theorem State.setModeOf_patchSel (s : State) (st : StackId) (m : Mode) : (s.setModeOf st m).patchSel = s.patchSel := by
  cases st <;> rfl

@[simp] theorem State.setModeOf_mix (s : State) (st : StackId) (m : Mode) : (s.setModeOf st m).mix = s.mix := by
  cases st <;> rfl

@[simp] theorem State.setModeOf_outl (s : State) (st : StackId) (m : Mode) : (s.setModeOf st m).outl = s.outl := by
  cases st <;> rfl

@[simp] theorem State.setModeOf_outr (s : State) (st : StackId) (m : Mode) : (s.setModeOf st m).outr = s.outr := by
  cases st <;> rfl

@[simp] theorem State.setModeOf_dl (s : State) (st : StackId) (m : Mode) : (s.setModeOf st m).dl = s.dl := by
  cases st <;> rfl

@[simp] theorem State.setModeOf_wp (s : State) (st : StackId) (m : Mode) : (s.setModeOf st m).wp = s.wp := by
  cases st <;> rfl

@[simp] theorem State.setModeOf_chtick (s : State) (st : StackId) (m : Mode) : (s.setModeOf st m).chtick = s.chtick := by
  cases st <;> rfl

@[simp] theorem State.setModeOf_port (s : State) (st : StackId) (m : Mode) : (s.setModeOf st m).port = s.port := by
  cases st <;> rfl

@[simp] theorem State.setModeOf_voice (s : State) (st : StackId) (m : Mode) (v : Fin 32) :
    (s.setModeOf st m).voice v = s.voice v := by
  cases st <;> rfl

theorem State.setModeOf_one (s : State) (m : Mode) : s.setModeOf .one m = s.setMode1 m := rfl

theorem State.setModeOf_two (s : State) (m : Mode) : s.setModeOf .two m = s.setMode2 m := rfl

/-- A command on a running machine has its effect. -/
theorem exec_running {s : State} (hf : s.status.fault = false) (hr : s.status.ready = true) (i : Instr) :
    exec i s = .next (effect i s) := by
  rw [exec_eq]; simp [hf, hr]

/-- A command on a halted machine does nothing. -/
theorem exec_halted {s : State} (hf : s.status.fault = true) (i : Instr) : exec i s = .next s := by
  rw [exec_eq]; simp [hf]

/-- A command other than INIT before INIT. -/
theorem exec_notReady {s : State} (hf : s.status.fault = false) (hr : s.status.ready = false) {i : Instr}
    (hi : i ≠ .init) : exec i s = .next (raiseFault .noTables s) := by
  rw [exec_eq]; simp [hf, hr, hi]

/-- The cases of a command's next state. -/
theorem exec_cases {i : Instr} {s t : State} (h : exec i s = .next t) :
    (s.status.fault = true ∧ t = s) ∨
    (s.status.fault = false ∧ s.status.ready = false ∧ i ≠ .init ∧ t = raiseFault .noTables s) ∨
    (s.status.fault = false ∧ (s.status.ready = true ∨ i = .init) ∧ t = effect i s) := by
  rw [exec_eq] at h
  injection h with h
  subst h
  by_cases hf : s.status.fault = true
  · exact .inl ⟨hf, by simp [hf]⟩
  · have hf' : s.status.fault = false := by simpa using hf
    by_cases hr : s.status.ready = true ∨ i = .init
    · exact .inr (.inr ⟨hf', hr, by simp [hf, hr]⟩)
    · refine .inr (.inl ⟨hf', ?_, fun e => hr (.inr e), by simp [hf, hr]⟩)
      simpa using fun e => hr (.inl e)

/-- The cases of SELPATCH. -/
theorem selpatch_cases (P : Params) (idx : BitVec 8) (s : State) :
    (patchSupported P idx = true ∧ selpatch P idx s = s.selectPatch idx) ∨
    (patchSupported P idx = false ∧ selpatch P idx s = raiseFault .badPatch s) := by
  unfold selpatch
  cases h : patchSupported P idx <;> simp

/-- The cases of NOTEON. -/
theorem noteon_cases (P : Params) (note vel : BitVec 7) (s : State) :
    (s.patchSel.v = false ∧ noteon P note vel s = raiseFault .badPatch s) ∨
    (s.patchSel.v = true ∧ noteSupported P note = false ∧ noteon P note vel s = raiseFault .badNote s) ∨
    (s.patchSel.v = true ∧ noteSupported P note = true ∧ noteon P note vel s =
      (s.setRridx (s.rridx + 1#5)).setVoice (voiceIdx s.rridx)
        (triggerVoice (keyParam P s.patchSel.idx note) note vel (s.voice (voiceIdx s.rridx)))) := by
  unfold noteon
  cases hv : s.patchSel.v <;> cases hn : noteSupported P note <;> simp

/-- The cases of NOTEOFF. -/
theorem noteoff_cases (P : Params) (note : BitVec 7) (s : State) :
    (noteSupported P note = false ∧ noteoff P note s = raiseFault .badNote s) ∨
    (noteSupported P note = true ∧ noteoff P note s = s.mapVoice (releaseFlags note)) := by
  unfold noteoff
  cases h : noteSupported P note <;> simp

/-- A step with nothing presented. -/
theorem step_empty {s : State} (h : s.port = []) : step s = .next s := by simp [step, nextInput, h]

/-- A step with the reset input. -/
theorem step_reset {s : State} {rest : List PortInput} (h : s.port = .reset :: rest) :
    step s = .next (State.reset.setPort rest) := by
  simp [step, nextInput, h, resetInput]

/-- A step with a command word. -/
theorem step_word {s : State} {w : Word} {rest : List PortInput} (h : s.port = .word w :: rest) :
    step s = match decode w with
      | .ok i => exec i (s.setPort rest)
      | .error _ => illegalWord (s.setPort rest) := by
  rcases hd : decode w with r | i <;> simp [step, nextInput, h, hd]

end Sys2Proof.Machine
end

