-- ==== Sys2Proof/Laws/Chorus.lean ====
section
/-! SUPPORT. The delays and the tap index of the chorus. -/

namespace Sys2Proof.Machine

theorem dlCap_eq : dlCap = 64 := rfl

@[simp] theorem params_dlCap : params.dlCap = 64 := rfl

theorem lfoDelay_le (P : Params) (k : Line) (t : BitVec 16) : lfoDelay P k t ≤ lineRange k := Nat.min_le_right _ _

theorem lineRange_le (k : Line) : lineRange k ≤ 63 := by cases k <;> decide

/-- The tap index of this machine, without negative numbers. -/
theorem tapIndex_params (k : Line) (s : State) :
    tapIndex params k s = (s.wp.toNat + 64 - lfoDelay params k s.chtick) % 64 := by
  have h := lfoDelay_le params k s.chtick
  have h' := lineRange_le k
  simp only [tapIndex, show params.dlCap = 64 from rfl]
  omega

end Sys2Proof.Machine
end

