-- ==== Sys2Proof/Laws/Envelope.lean ====
section
/-! SUPPORT. What each sub-step of the envelope generator leaves alone, and what one evaluation does with the gate high
and with the gate low. -/

namespace Sys2Proof.Machine

@[simp] theorem egStep2_stage (gate : Bool) (o : OpRegs) : (egStep2 gate o).stage = o.stage := by
  unfold egStep2; split <;> rfl

@[simp] theorem egStep2_eao (gate : Bool) (o : OpRegs) : (egStep2 gate o).eao = o.eao := by
  unfold egStep2; split <;> rfl

@[simp] theorem egStep2_rs (gate : Bool) (o : OpRegs) : (egStep2 gate o).rs = o.rs := by
  unfold egStep2; split <;> rfl

@[simp] theorem egStep2_rsx (gate : Bool) (o : OpRegs) : (egStep2 gate o).rsx = o.rsx := by
  unfold egStep2; split <;> rfl

@[simp] theorem egStep2_ar (gate : Bool) (o : OpRegs) : (egStep2 gate o).ar = o.ar := by
  unfold egStep2; split <;> rfl

@[simp] theorem egStep2_dr (gate : Bool) (o : OpRegs) : (egStep2 gate o).dr = o.dr := by
  unfold egStep2; split <;> rfl

@[simp] theorem egStep2_rr (gate : Bool) (o : OpRegs) : (egStep2 gate o).rr = o.rr := by
  unfold egStep2; split <;> rfl

@[simp] theorem egStep2_rra (gate : Bool) (o : OpRegs) : (egStep2 gate o).rra = o.rra := by
  unfold egStep2; split <;> rfl

@[simp] theorem egStep2_pa (gate : Bool) (o : OpRegs) : (egStep2 gate o).pa = o.pa := by
  unfold egStep2; split <;> rfl

@[simp] theorem egStep2_pae (gate : Bool) (o : OpRegs) : (egStep2 gate o).pae = o.pae := by
  unfold egStep2; split <;> rfl

@[simp] theorem egStep2_cw (gate : Bool) (o : OpRegs) : (egStep2 gate o).cw = o.cw := by
  unfold egStep2; split <;> rfl

@[simp] theorem egStep2_amp (gate : Bool) (o : OpRegs) : (egStep2 gate o).amp = o.amp := by
  unfold egStep2; split <;> rfl

@[simp] theorem egStep3_ea (gate : Bool) (o : OpRegs) : (egStep3 gate o).ea = o.ea := by
  unfold egStep3; split <;> rfl

@[simp] theorem egStep3_eax (gate : Bool) (o : OpRegs) : (egStep3 gate o).eax = o.eax := by
  unfold egStep3; split <;> rfl

@[simp] theorem egStep3_eao (gate : Bool) (o : OpRegs) : (egStep3 gate o).eao = o.eao := by
  unfold egStep3; split <;> rfl

@[simp] theorem egStep3_rs (gate : Bool) (o : OpRegs) : (egStep3 gate o).rs = o.rs := by
  unfold egStep3; split <;> rfl

@[simp] theorem egStep3_rsx (gate : Bool) (o : OpRegs) : (egStep3 gate o).rsx = o.rsx := by
  unfold egStep3; split <;> rfl

@[simp] theorem egStep3_ar (gate : Bool) (o : OpRegs) : (egStep3 gate o).ar = o.ar := by
  unfold egStep3; split <;> rfl

@[simp] theorem egStep3_dr (gate : Bool) (o : OpRegs) : (egStep3 gate o).dr = o.dr := by
  unfold egStep3; split <;> rfl

@[simp] theorem egStep3_rr (gate : Bool) (o : OpRegs) : (egStep3 gate o).rr = o.rr := by
  unfold egStep3; split <;> rfl

@[simp] theorem egStep3_rra (gate : Bool) (o : OpRegs) : (egStep3 gate o).rra = o.rra := by
  unfold egStep3; split <;> rfl

@[simp] theorem egStep3_pa (gate : Bool) (o : OpRegs) : (egStep3 gate o).pa = o.pa := by
  unfold egStep3; split <;> rfl

@[simp] theorem egStep3_pae (gate : Bool) (o : OpRegs) : (egStep3 gate o).pae = o.pae := by
  unfold egStep3; split <;> rfl

@[simp] theorem egStep3_cw (gate : Bool) (o : OpRegs) : (egStep3 gate o).cw = o.cw := by
  unfold egStep3; split <;> rfl

@[simp] theorem egStep3_amp (gate : Bool) (o : OpRegs) : (egStep3 gate o).amp = o.amp := by
  unfold egStep3; split <;> rfl

@[simp] theorem egStep4_stage (P : Params) (gate : Bool) (o : OpRegs) : (egStep4 P gate o).stage = o.stage := by
  unfold egStep4; split <;> rfl

@[simp] theorem egStep4_eao (P : Params) (gate : Bool) (o : OpRegs) : (egStep4 P gate o).eao = o.eao := by
  unfold egStep4; split <;> rfl

@[simp] theorem egStep4_rs (P : Params) (gate : Bool) (o : OpRegs) : (egStep4 P gate o).rs = o.rs := by
  unfold egStep4; split <;> rfl

@[simp] theorem egStep4_rsx (P : Params) (gate : Bool) (o : OpRegs) : (egStep4 P gate o).rsx = o.rsx := by
  unfold egStep4; split <;> rfl

@[simp] theorem egStep4_ar (P : Params) (gate : Bool) (o : OpRegs) : (egStep4 P gate o).ar = o.ar := by
  unfold egStep4; split <;> rfl

@[simp] theorem egStep4_dr (P : Params) (gate : Bool) (o : OpRegs) : (egStep4 P gate o).dr = o.dr := by
  unfold egStep4; split <;> rfl

@[simp] theorem egStep4_rr (P : Params) (gate : Bool) (o : OpRegs) : (egStep4 P gate o).rr = o.rr := by
  unfold egStep4; split <;> rfl

@[simp] theorem egStep4_rra (P : Params) (gate : Bool) (o : OpRegs) : (egStep4 P gate o).rra = o.rra := by
  unfold egStep4; split <;> rfl

@[simp] theorem egStep4_pa (P : Params) (gate : Bool) (o : OpRegs) : (egStep4 P gate o).pa = o.pa := by
  unfold egStep4; split <;> rfl

@[simp] theorem egStep4_pae (P : Params) (gate : Bool) (o : OpRegs) : (egStep4 P gate o).pae = o.pae := by
  unfold egStep4; split <;> rfl

@[simp] theorem egStep4_cw (P : Params) (gate : Bool) (o : OpRegs) : (egStep4 P gate o).cw = o.cw := by
  unfold egStep4; split <;> rfl

@[simp] theorem egStep4_amp (P : Params) (gate : Bool) (o : OpRegs) : (egStep4 P gate o).amp = o.amp := by
  unfold egStep4; split <;> rfl

@[simp] theorem egStep6and7_stage (P : Params) (gate : Bool) (o : OpRegs) : (egStep6and7 P gate o).stage = o.stage := by
  unfold egStep6and7; split <;> rfl

@[simp] theorem egStep6and7_eao (P : Params) (gate : Bool) (o : OpRegs) : (egStep6and7 P gate o).eao = o.eao := by
  unfold egStep6and7; split <;> rfl

@[simp] theorem egStep6and7_rs (P : Params) (gate : Bool) (o : OpRegs) : (egStep6and7 P gate o).rs = o.rs := by
  unfold egStep6and7; split <;> rfl

@[simp] theorem egStep6and7_rsx (P : Params) (gate : Bool) (o : OpRegs) : (egStep6and7 P gate o).rsx = o.rsx := by
  unfold egStep6and7; split <;> rfl

@[simp] theorem egStep6and7_ar (P : Params) (gate : Bool) (o : OpRegs) : (egStep6and7 P gate o).ar = o.ar := by
  unfold egStep6and7; split <;> rfl

@[simp] theorem egStep6and7_dr (P : Params) (gate : Bool) (o : OpRegs) : (egStep6and7 P gate o).dr = o.dr := by
  unfold egStep6and7; split <;> rfl

@[simp] theorem egStep6and7_rr (P : Params) (gate : Bool) (o : OpRegs) : (egStep6and7 P gate o).rr = o.rr := by
  unfold egStep6and7; split <;> rfl

@[simp] theorem egStep6and7_rra (P : Params) (gate : Bool) (o : OpRegs) : (egStep6and7 P gate o).rra = o.rra := by
  unfold egStep6and7; split <;> rfl

@[simp] theorem egStep6and7_pa (P : Params) (gate : Bool) (o : OpRegs) : (egStep6and7 P gate o).pa = o.pa := by
  unfold egStep6and7; split <;> rfl

@[simp] theorem egStep6and7_pae (P : Params) (gate : Bool) (o : OpRegs) : (egStep6and7 P gate o).pae = o.pae := by
  unfold egStep6and7; split <;> rfl

@[simp] theorem egStep6and7_cw (P : Params) (gate : Bool) (o : OpRegs) : (egStep6and7 P gate o).cw = o.cw := by
  unfold egStep6and7; split <;> rfl

@[simp] theorem egStep6and7_amp (P : Params) (gate : Bool) (o : OpRegs) : (egStep6and7 P gate o).amp = o.amp := by
  unfold egStep6and7; split <;> rfl

@[simp] theorem egStart_eao (P : Params) (gateOld gate : Bool) (o : OpRegs) :
    (egStart P gateOld gate o).eao = o.eao := by
  unfold egStart; split <;> rfl

@[simp] theorem egGated_eao (P : Params) (gateOld gate : Bool) (o : OpRegs) :
    (egGated P gateOld gate o).eao = o.eao := by
  simp only [egGated, apply_ite OpRegs.eao, egStep4_eao, egStep3_eao, egStep2_eao, egStart_eao, ite_self]

@[simp] theorem egStart_rs (P : Params) (gateOld gate : Bool) (o : OpRegs) :
    (egStart P gateOld gate o).rs = o.rs := by
  unfold egStart; split <;> rfl

@[simp] theorem egGated_rs (P : Params) (gateOld gate : Bool) (o : OpRegs) :
    (egGated P gateOld gate o).rs = o.rs := by
  simp only [egGated, apply_ite OpRegs.rs, egStep4_rs, egStep3_rs, egStep2_rs, egStart_rs, ite_self]

@[simp] theorem egStart_rsx (P : Params) (gateOld gate : Bool) (o : OpRegs) :
    (egStart P gateOld gate o).rsx = o.rsx := by
  unfold egStart; split <;> rfl

@[simp] theorem egGated_rsx (P : Params) (gateOld gate : Bool) (o : OpRegs) :
    (egGated P gateOld gate o).rsx = o.rsx := by
  simp only [egGated, apply_ite OpRegs.rsx, egStep4_rsx, egStep3_rsx, egStep2_rsx, egStart_rsx, ite_self]

@[simp] theorem egStart_ar (P : Params) (gateOld gate : Bool) (o : OpRegs) :
    (egStart P gateOld gate o).ar = o.ar := by
  unfold egStart; split <;> rfl

@[simp] theorem egGated_ar (P : Params) (gateOld gate : Bool) (o : OpRegs) :
    (egGated P gateOld gate o).ar = o.ar := by
  simp only [egGated, apply_ite OpRegs.ar, egStep4_ar, egStep3_ar, egStep2_ar, egStart_ar, ite_self]

@[simp] theorem egStart_dr (P : Params) (gateOld gate : Bool) (o : OpRegs) :
    (egStart P gateOld gate o).dr = o.dr := by
  unfold egStart; split <;> rfl

@[simp] theorem egGated_dr (P : Params) (gateOld gate : Bool) (o : OpRegs) :
    (egGated P gateOld gate o).dr = o.dr := by
  simp only [egGated, apply_ite OpRegs.dr, egStep4_dr, egStep3_dr, egStep2_dr, egStart_dr, ite_self]

@[simp] theorem egStart_rr (P : Params) (gateOld gate : Bool) (o : OpRegs) :
    (egStart P gateOld gate o).rr = o.rr := by
  unfold egStart; split <;> rfl

@[simp] theorem egGated_rr (P : Params) (gateOld gate : Bool) (o : OpRegs) :
    (egGated P gateOld gate o).rr = o.rr := by
  simp only [egGated, apply_ite OpRegs.rr, egStep4_rr, egStep3_rr, egStep2_rr, egStart_rr, ite_self]

@[simp] theorem egStart_rra (P : Params) (gateOld gate : Bool) (o : OpRegs) :
    (egStart P gateOld gate o).rra = o.rra := by
  unfold egStart; split <;> rfl

@[simp] theorem egGated_rra (P : Params) (gateOld gate : Bool) (o : OpRegs) :
    (egGated P gateOld gate o).rra = o.rra := by
  simp only [egGated, apply_ite OpRegs.rra, egStep4_rra, egStep3_rra, egStep2_rra, egStart_rra, ite_self]

@[simp] theorem egStart_pa (P : Params) (gateOld gate : Bool) (o : OpRegs) :
    (egStart P gateOld gate o).pa = o.pa := by
  unfold egStart; split <;> rfl

@[simp] theorem egGated_pa (P : Params) (gateOld gate : Bool) (o : OpRegs) :
    (egGated P gateOld gate o).pa = o.pa := by
  simp only [egGated, apply_ite OpRegs.pa, egStep4_pa, egStep3_pa, egStep2_pa, egStart_pa, ite_self]

@[simp] theorem egStart_pae (P : Params) (gateOld gate : Bool) (o : OpRegs) :
    (egStart P gateOld gate o).pae = o.pae := by
  unfold egStart; split <;> rfl

@[simp] theorem egGated_pae (P : Params) (gateOld gate : Bool) (o : OpRegs) :
    (egGated P gateOld gate o).pae = o.pae := by
  simp only [egGated, apply_ite OpRegs.pae, egStep4_pae, egStep3_pae, egStep2_pae, egStart_pae, ite_self]

@[simp] theorem egStart_cw (P : Params) (gateOld gate : Bool) (o : OpRegs) :
    (egStart P gateOld gate o).cw = o.cw := by
  unfold egStart; split <;> rfl

@[simp] theorem egGated_cw (P : Params) (gateOld gate : Bool) (o : OpRegs) :
    (egGated P gateOld gate o).cw = o.cw := by
  simp only [egGated, apply_ite OpRegs.cw, egStep4_cw, egStep3_cw, egStep2_cw, egStart_cw, ite_self]

@[simp] theorem egStart_amp (P : Params) (gateOld gate : Bool) (o : OpRegs) :
    (egStart P gateOld gate o).amp = o.amp := by
  unfold egStart; split <;> rfl

@[simp] theorem egGated_amp (P : Params) (gateOld gate : Bool) (o : OpRegs) :
    (egGated P gateOld gate o).amp = o.amp := by
  simp only [egGated, apply_ite OpRegs.amp, egStep4_amp, egStep3_amp, egStep2_amp, egStart_amp, ite_self]

/-- With the gate low, steps 1 to 4 do nothing. -/
theorem egGated_low (P : Params) (gateOld : Bool) (o : OpRegs) : egGated P gateOld false o = o := by
  simp [egGated, egStart, rising, egStep2, egStep3, egStep4]

/-- One evaluation with the gate low: steps 5 to 7. -/
theorem egStep_low (P : Params) (gateOld : Bool) (o : OpRegs) :
    egStep P gateOld false o = egStepLast (egStep6and7 P false (if gateOld = true then egStep5 o else o)) := by
  simp [egStep, egRelease, egGated_low, falling]

/-- One evaluation with the gate high: steps 1 to 4. -/
theorem egStep_high (P : Params) (gateOld : Bool) (o : OpRegs) :
    egStep P gateOld true o = egStepLast (egGated P gateOld true o) := by
  simp [egStep, egRelease, falling, egStep6and7]

/-- Every evaluation ends with `EAo` equal to `EA`. -/
@[simp] theorem egStep_eao (P : Params) (gateOld gate : Bool) (o : OpRegs) :
    (egStep P gateOld gate o).eao = (egStep P gateOld gate o).ea := rfl

@[simp] theorem egStep_ar (P : Params) (gateOld gate : Bool) (o : OpRegs) : (egStep P gateOld gate o).ar = o.ar := by
  cases gate
  · rw [egStep_low]; cases gateOld <;> simp
  · rw [egStep_high]; simp

@[simp] theorem egStep_dr (P : Params) (gateOld gate : Bool) (o : OpRegs) : (egStep P gateOld gate o).dr = o.dr := by
  cases gate
  · rw [egStep_low]; cases gateOld <;> simp
  · rw [egStep_high]; simp

@[simp] theorem egStep_rr (P : Params) (gateOld gate : Bool) (o : OpRegs) : (egStep P gateOld gate o).rr = o.rr := by
  cases gate
  · rw [egStep_low]; cases gateOld <;> simp
  · rw [egStep_high]; simp

@[simp] theorem egStep_pa (P : Params) (gateOld gate : Bool) (o : OpRegs) : (egStep P gateOld gate o).pa = o.pa := by
  cases gate
  · rw [egStep_low]; cases gateOld <;> simp
  · rw [egStep_high]; simp

@[simp] theorem egStep_pae (P : Params) (gateOld gate : Bool) (o : OpRegs) : (egStep P gateOld gate o).pae = o.pae := by
  cases gate
  · rw [egStep_low]; cases gateOld <;> simp
  · rw [egStep_high]; simp

@[simp] theorem egStep_cw (P : Params) (gateOld gate : Bool) (o : OpRegs) : (egStep P gateOld gate o).cw = o.cw := by
  cases gate
  · rw [egStep_low]; cases gateOld <;> simp
  · rw [egStep_high]; simp

@[simp] theorem egStep_amp (P : Params) (gateOld gate : Bool) (o : OpRegs) : (egStep P gateOld gate o).amp = o.amp := by
  cases gate
  · rw [egStep_low]; cases gateOld <;> simp
  · rw [egStep_high]; simp

/-- `RS` changes on a falling gate edge alone. -/
theorem egStep_rs (P : Params) (gateOld gate : Bool) (o : OpRegs) (h : falling gateOld gate = false) :
    (egStep P gateOld gate o).rs = o.rs := by
  cases gate
  · cases gateOld
    · simp [egStep_low]
    · simp [falling] at h
  · simp [egStep_high]

/-- `RSx` changes on a falling gate edge alone. -/
theorem egStep_rsx (P : Params) (gateOld gate : Bool) (o : OpRegs) (h : falling gateOld gate = false) :
    (egStep P gateOld gate o).rsx = o.rsx := by
  cases gate
  · cases gateOld
    · simp [egStep_low]
    · simp [falling] at h
  · simp [egStep_high]

/-- `RRA` changes on a falling gate edge alone. -/
theorem egStep_rra (P : Params) (gateOld gate : Bool) (o : OpRegs) (h : falling gateOld gate = false) :
    (egStep P gateOld gate o).rra = o.rra := by
  cases gate
  · cases gateOld
    · simp [egStep_low]
    · simp [falling] at h
  · simp [egStep_high]

end Sys2Proof.Machine
end

