-- ==== Sys2Proof/Laws/KeyParam.lean ====
section
/-! SUPPORT. This machine's open parameters meet what the spec requires of them, and what `KEYPARAM` gives at an index
that holds a record. -/

namespace Sys2Proof.Machine

/-- The open parameters of this machine are legal (rules R247 to R250). -/
theorem params_key_legal : KeyLegal params.eaInit params.patchMem params.key := openKey.legal

/-- Slot 1 holds a record. -/
theorem params_patch1 : params.patchMem 1#8 = some openKey.patch1 := rfl

/-- No record stands at `NPATCH` and above. -/
theorem params_patch_none (idx : BitVec 8) (h : params.npatch ≤ idx.toNat) : params.patchMem idx = none := by
  have h2 : 2 ≤ idx.toNat := h
  have h1 : idx ≠ 1#8 := by rintro rfl; simp at h2
  have h0 : idx ≠ 0#8 := by rintro rfl; simp at h2
  simp [params, patchMemOf, h1, h0]

/-- The rates of `KEYPARAM` at an index that holds a record are `ENV_RATES`. -/
theorem keyParam_rates {P : Params} (hl : KeyLegal P.eaInit P.patchMem P.key) {idx : BitVec 8} {rec : PatchConfig}
    (h : P.patchMem idx = some rec) (note : BitVec 7) (i : OpIdx) :
    ((keyParam P idx note).get i).ar = (P.key.envRates rec i note).ar ∧
    ((keyParam P idx note).get i).dr = (P.key.envRates rec i note).dr ∧
    ((keyParam P idx note).get i).rr = (P.key.envRates rec i note).rr := by
  simp [keyParam, hl.composed idx rec note i h, operatorParams]

end Sys2Proof.Machine
end

