-- ==== Sys2Proof/Laws/Network.lean ====
section
/-! SUPPORT. What one voice tick does to each field of a voice, the frames of the note flags, what `logSin` reads of
its argument, and the mix as a sum over the voices. -/

namespace Sys2Proof.Machine

@[simp] theorem voiceTick_gateNew (P : Params) (m n : Mode) (v : Voice) : (voiceTick P m n v).gateNew = v.gateNew := by
  simp [voiceTick, networkHistory, prepared]

@[simp] theorem voiceTick_gate (P : Params) (m n : Mode) (v : Voice) : (voiceTick P m n v).gate = v.gateNew := by
  simp [voiceTick, networkHistory, prepared]

@[simp] theorem voiceTick_gateOld (P : Params) (m n : Mode) (v : Voice) : (voiceTick P m n v).gateOld = v.gate := by
  simp [voiceTick, networkHistory, prepared]

@[simp] theorem voiceTick_note (P : Params) (m n : Mode) (v : Voice) : (voiceTick P m n v).note = v.note := by
  simp [voiceTick, networkHistory, prepared]

@[simp] theorem voiceTick_vel (P : Params) (m n : Mode) (v : Voice) : (voiceTick P m n v).vel = v.vel := by
  simp [voiceTick, networkHistory, prepared]

@[simp] theorem voiceTick_noteOn (P : Params) (m n : Mode) (v : Voice) : (voiceTick P m n v).noteOn = v.noteOn := by
  simp [voiceTick, networkHistory, prepared]

@[simp] theorem voiceTick_sustaining (P : Params) (m n : Mode) (v : Voice) :
    (voiceTick P m n v).sustaining = v.sustaining := by
  simp [voiceTick, networkHistory, prepared]

@[simp] theorem voiceTick_eg (P : Params) (m n : Mode) (v : Voice) : (voiceTick P m n v).eg = v.eg := by
  simp [voiceTick, networkHistory, prepared]

/-- Each operator of a voice after a tick: its envelope, then its phase, then its amplitude. -/
@[simp] theorem voiceTick_op (P : Params) (m n : Mode) (v : Voice) (i : OpIdx) :
    (voiceTick P m n v).op.get i =
      ampStep (v.eg.get i) v.vel (phaseStep (egStep P v.gateOld v.gate (v.op.get i))) := by
  simp [voiceTick, networkHistory, prepared]

/-- Each operator of a voice as the network sees it. -/
@[simp] theorem prepared_op (P : Params) (v : Voice) (i : OpIdx) :
    (prepared P v).op.get i =
      ampStep (v.eg.get i) v.vel (phaseStep (egStep P v.gateOld v.gate (v.op.get i))) := by
  simp [prepared]

@[simp] theorem releaseFlags_op (note : BitVec 7) (v : Voice) : (releaseFlags note v).op = v.op := by
  unfold releaseFlags; split <;> rfl

@[simp] theorem releaseFlags_eg (note : BitVec 7) (v : Voice) : (releaseFlags note v).eg = v.eg := by
  unfold releaseFlags; split <;> rfl

@[simp] theorem releaseFlags_gate (note : BitVec 7) (v : Voice) : (releaseFlags note v).gate = v.gate := by
  unfold releaseFlags; split <;> rfl

@[simp] theorem releaseFlags_gateOld (note : BitVec 7) (v : Voice) : (releaseFlags note v).gateOld = v.gateOld := by
  unfold releaseFlags; split <;> rfl

@[simp] theorem releaseFlags_note (note : BitVec 7) (v : Voice) : (releaseFlags note v).note = v.note := by
  unfold releaseFlags; split <;> rfl

@[simp] theorem releaseFlags_vel (note : BitVec 7) (v : Voice) : (releaseFlags note v).vel = v.vel := by
  unfold releaseFlags; split <;> rfl

@[simp] theorem releaseFlags_sustaining (note : BitVec 7) (v : Voice) :
    (releaseFlags note v).sustaining = v.sustaining := by
  unfold releaseFlags; split <;> rfl

@[simp] theorem releaseFlags_m1old1 (note : BitVec 7) (v : Voice) : (releaseFlags note v).m1old1 = v.m1old1 := by
  unfold releaseFlags; split <;> rfl

@[simp] theorem releaseFlags_m1old2 (note : BitVec 7) (v : Voice) : (releaseFlags note v).m1old2 = v.m1old2 := by
  unfold releaseFlags; split <;> rfl

@[simp] theorem releaseFlags_m2old1 (note : BitVec 7) (v : Voice) : (releaseFlags note v).m2old1 = v.m2old1 := by
  unfold releaseFlags; split <;> rfl

@[simp] theorem releaseFlags_m2old2 (note : BitVec 7) (v : Voice) : (releaseFlags note v).m2old2 = v.m2old2 := by
  unfold releaseFlags; split <;> rfl

/-- `logSin` reads its argument modulo 1024. -/
theorem logSin_congr (P : Params) {p q : Int} (h : BitVec.ofInt 10 p = BitVec.ofInt 10 q) : logSin P p = logSin P q := by
  simp only [logSin, h]

/-- With `PI2_GATE_QUIRK` off, as it is by default, each cut-off tests its own modulator. -/
theorem modGateAmp_own (mode : Mode) (v : Voice) (st : StackId) :
    modGateAmp params mode v st = v.amp (modulatorOf st) := by
  cases st <;> rfl

/-- The mix is the sum over the voice file. -/
theorem mixSum_eq_sum (P : Params) (s : State) :
    mixSum P s = ∑ v : Fin 32, voiceSample P s.mode1 s.mode2 (s.voice v) := by
  rw [← List.sum_ofFn]
  simp only [mixSum]
  congr 1
  apply List.ext_getElem
  · simp
  · intro i _ _
    simp only [List.getElem_map, List.getElem_ofFn, State.voice, Vector.getElem_toList]

end Sys2Proof.Machine
end

