-- ==== Sys2Proof/Machine/Parametric.lean ====
section
/-! DEFINITION. The machine with the parameters of rule R12 as an argument. `exec`, `step` and `State.reset` are this
machine at `params` (Laws/Parametric.lean). -/

namespace Sys2Proof.Machine

/-- What each command does once the checks of rule R120 have passed, for any parameters. -/
def effectWith (P : Params) : Instr → State → State
  | .init, s => s.setReady
  | .selpatch idx, s => selpatch P idx s
  | .noteon note vel, s => noteon P note vel s
  | .noteoff note, s => noteoff P note s
  | .sustain down, s => s.mapVoice (pedalFlags down)
  | .tick, s => tick P s
  | .chorus, s => chorus P s
  | .setmode stack mode, s => s.setModeOf stack mode

/-- A command for any parameters: INIT alone runs before `STATUS.READY` is set (rules R120, R149). -/
def execWith (P : Params) (i : Instr) (s : State) : Result :=
  if i = .init then unlessHalted s fun s => .next (effectWith P i s)
  else whenReady s fun s => .next (effectWith P i s)

/-- A step for any parameters. -/
def stepWith (P : Params) (s : State) : Result :=
  match nextInput s with
  | none => .next s
  | some (.reset, s') => .next ((State.resetWith P).setPort s'.port)
  | some (.word w, s') =>
    match decode w with
    | .ok i => execWith P i s'
    | .error _ => illegalWord s'

end Sys2Proof.Machine
end

