-- ==== Sys2Proof/Laws/Parametric.lean ====
section
/-! SUPPORT. This machine is the parametric machine at `params`. -/

namespace Sys2Proof.Machine

theorem effect_eq_effectWith (i : Instr) (s : State) : effect i s = effectWith params i s := by cases i <;> rfl

theorem exec_eq_execWith (i : Instr) (s : State) : exec i s = execWith params i s := by cases i <;> rfl

theorem step_eq_stepWith (s : State) : step s = stepWith params s := by
  rcases h : s.port with _ | ⟨w | _, rest⟩
  · simp [step, stepWith, nextInput, h]
  · rcases hd : decode w with r | i <;> simp [step, stepWith, nextInput, h, hd, exec_eq_execWith]
  · simp [step, stepWith, nextInput, h, resetInput, State.reset]

end Sys2Proof.Machine
end

