-- ==== Sys2Proof/Laws/PerInstr.lean ====
section
/-! SUPPORT. The family RowMatch, one lemma a constructor: the encoded word of a command matches its own row of
rule R113. -/

namespace Sys2Proof.Laws.RowMatch

/-- The word of `i` agrees with the row of `i` on every bit of its mask. -/
def Statement (i : Instr) : Prop := encode i &&& (rowOf i).mask = (rowOf i).value

theorem init : Statement .init := by unfold Statement; decide

theorem selpatch (idx : BitVec 8) : Statement (.selpatch idx) := by
  revert idx; unfold Statement; decide +kernel

theorem noteon (note vel : BitVec 7) : Statement (.noteon note vel) := by
  unfold Statement encode rowOf
  ext i hi
  simp only [BitVec.getElem_and, BitVec.getElem_append]
  interval_cases i <;> simp

theorem noteoff (note : BitVec 7) : Statement (.noteoff note) := by
  revert note; unfold Statement; decide +kernel

theorem sustain (down : Bool) : Statement (.sustain down) := by revert down; unfold Statement; decide

theorem tick : Statement .tick := by unfold Statement; decide

theorem chorus : Statement .chorus := by unfold Statement; decide

theorem setmode (stack : StackId) (mode : Mode) : Statement (.setmode stack mode) := by
  cases stack <;> cases mode <;> (unfold Statement; decide)

end Sys2Proof.Laws.RowMatch
end

