-- ==== Sys2Proof/Tests/Slice0.lean ====
section
/-! SUPPORT. Tests against the vectors of spec/95_test_vectors.md, each named there, and for every statement with
hypotheses a witness that meets them all. -/

open Sys2Proof Sys2Proof.Machine

namespace Sys2Proof.Tests

-- One theorem at a time: checked all at once, the tests ask for more threads than the memory limit allows.
set_option Elab.async false

/-! ### The test fixture: TCFG of 95_test_vectors.md section 2 -/

/-- A scaling curve with the calibration bounds 0 and 1 and every key-dependent entry `x`. -/
def curve (x : ℝ) : Vector ℝ 46 := Vector.ofFn fun j => if j.val = 0 then 0 else if j.val = 1 then 1 else x

/-- The record of patch 1 under TCFG. -/
noncomputable def record : PatchConfig :=
  { ratio := ⟨1, 1, 2, 3⟩, detuneCents := Quad.all 0, curve := ⟨curve 0, curve 0, curve (256 / 4095), curve (512 / 4095)⟩,
    attackTime := Quad.all 4, decayScaling := Quad.all 0 }

/-- `b` of TCFG. -/
def tcfgBase (note : BitVec 7) : Nat := (note.toNat + 16) * 0x10000

/-- The open parameters of TCFG, and its `KEYPARAM`. -/
noncomputable def tcfgKey : KeyConfig :=
  { fsInternal := ⟨2 ^ 28, by norm_num⟩
    baseFreq := fun n => ⟨tcfgBase n, by unfold tcfgBase; positivity⟩
    egStage2 := fun x => ⌊x * 4095⌋
    envRates := fun _ _ _ => ⟨0x40000#20, 0x400#20, 0x20000#20⟩
    cwOpen := fun _ _ _ => 0#28
    keyParam := fun _ note =>
      let b := tcfgBase note
      let k (cw : Nat) (eg : BitVec 12) : KeyParams := ⟨BitVec.ofNat 28 cw, eg, 0x40000#20, 0x400#20, 0x20000#20⟩
      ⟨k b 0#12, k b 0#12, k (2 * b) 256#12, k (3 * b) 512#12⟩ }

/-- The parameters of TCFG. -/
noncomputable def tcfg : Params :=
  { params with
      key := tcfgKey
      patchMem := patchMemOf none record
      lfo := fun k t =>
        match k with
        | .a => t.toNat % 4
        | .b => 1 + t.toNat % 3
        | .c => 2 * (t.toNat % 2) }

theorem roundAway_nat (n : Nat) : roundAway (n : ℝ) = n := by
  rw [roundAway, if_pos (by positivity), Int.floor_eq_iff]
  constructor <;> push_cast <;> linarith

theorem tcfg_controlWord (i : OpIdx) (note : BitVec 7) (r : Nat) (hr : record.ratio.get i = r) (hp : 0 < r) :
    controlWord tcfgKey record i note = BitVec.ofNat 28 (r * tcfgBase note) := by
  have hf : frequency tcfgKey record i note = ((r * tcfgBase note : Nat) : ℝ) := by
    have hd : record.detuneCents.get i = 0 := by cases i <;> rfl
    simp [frequency, detune, hr, hd, tcfgKey, mul_comm]
  have hb : 0 < tcfgBase note := by unfold tcfgBase; positivity
  have h0 : ((r * tcfgBase note : Nat) : ℝ) ≠ 0 := by positivity
  have hx : (2 : ℝ) ^ 28 / (((tcfgKey.fsInternal : PosReal) : ℝ) / ((r * tcfgBase note : Nat) : ℝ)) =
      ((r * tcfgBase note : Nat) : ℝ) := by
    simp only [tcfgKey]
    field_simp
  simp only [controlWord, hf]
  rw [if_neg h0, hx, roundAway_nat]
  rfl

theorem tcfg_scaleFactor (x : ℝ) (h0 : 0 ≤ x) (h1 : x ≤ 1) (note : BitVec 7) : scaleFactor (curve x) note = x := by
  have hc : 2 ≤ (curveIndex note).val := by simp only [curveIndex]; omega
  have hx : (curve x)[curveIndex note] = x := by
    simp only [curve, Fin.getElem_fin, Vector.getElem_ofFn]
    rw [if_neg (by omega), if_neg (by omega)]
  simp only [scaleFactor, hx]
  simp [curve, h0, h1]

/-- TCFG meets what the spec requires of every instantiation: its `KEYPARAM` is the composition of rules R248 to R250. -/
theorem tcfg_legal : KeyLegal tcfg.eaInit tcfg.patchMem tcfg.key := by
  have hrec : ∀ idx rec, tcfg.patchMem idx = some rec → rec = record := by
    intro idx rec h
    simp only [tcfg, patchMemOf] at h
    split at h
    · exact (Option.some.inj h).symm
    · split at h <;> cases h
  constructor
  · intro idx rec note i h
    rw [hrec idx rec h]
    have e1 := tcfg_controlWord .c1 note 1 (by simp [record, Quad.get]) one_pos
    have e2 := tcfg_controlWord .c2 note 1 (by simp [record, Quad.get]) one_pos
    have e3 := tcfg_controlWord .m1 note 2 (by simp [record, Quad.get]) two_pos
    have e4 := tcfg_controlWord .m2 note 3 (by simp [record, Quad.get]) three_pos
    have s0 := tcfg_scaleFactor 0 le_rfl zero_le_one note
    have s1 := tcfg_scaleFactor (256 / 4095) (by norm_num) (by norm_num) note
    have s2 := tcfg_scaleFactor (512 / 4095) (by norm_num) (by norm_num) note
    cases i <;> simp only [operatorParams, tcfg, e1, e2, e3, e4, scalingConstant] <;>
      simp [tcfgKey, record, Quad.get, s0, s1, s2]
  · intro idx rec i h
    rw [hrec idx rec h]
    refine ⟨fun n => by simp [tcfg, tcfgKey], ⟨0, 1, 0x400, 0x20000, fun n => ?_⟩, fun m n _ => by simp [tcfg, tcfgKey]⟩
    cases i <;> norm_num [RoundedRate, linearScale, tcfg, tcfgKey, record, params, Quad.get, Quad.all]

/-- After INIT. -/
def ready : State := { State.reset with status := ⟨true, false⟩ }

/-- After INIT and SELPATCH 1. -/
def selected : State := { ready with patchSel := ⟨true, 1#8⟩ }

/-- After a fault. -/
def halted : State := { ready with status := ⟨true, true⟩, cause := 3#3 }

/-- `s` with one command word presented. -/
def given (w : Word) (s : State) : State := { s with port := [.word w] }

/-- A voice that holds note 48. -/
def holding : Voice := { Voice.reset with note := 48#7, noteOn := true, gateNew := true }

/-- `ready` with that voice as voice 0. -/
def held : State := ready.setVoice 0 holding

/-- The state a next outcome holds, else the reset state. -/
def after (r : Result) : State :=
  match r with
  | .next t => t
  | _ => State.reset

/-! ### Well-formedness: one ill-formed line for each check -/

theorem test_illformed_selpatch_index : AsmLine.wellFormed (.selpatch 256) = false := by decide
theorem test_illformed_noteon_note : AsmLine.wellFormed (.noteon 128 0) = false := by decide
theorem test_illformed_noteon_velocity : AsmLine.wellFormed (.noteon 0 128) = false := by decide
theorem test_illformed_noteoff_note : AsmLine.wellFormed (.noteoff 128) = false := by decide
theorem test_illformed_sustain : AsmLine.wellFormed (.sustain 2) = false := by decide
theorem test_illformed_setmode_stack : AsmLine.wellFormed (.setmode 0 0) = false ∧
    AsmLine.wellFormed (.setmode 3 0) = false := by decide
theorem test_illformed_setmode_mode : AsmLine.wellFormed (.setmode 1 4) = false := by decide
theorem test_illformed_has_no_words : AsmLine.assemble (.noteon 48 128) = none := by decide
theorem test_wellformed_bounds : AsmLine.wellFormed (.selpatch 255) = true ∧
    AsmLine.wellFormed (.noteon 127 127) = true ∧ AsmLine.wellFormed (.setmode 2 3) = true := by decide

/-! ### Decoding: the word of each command, written bit by bit from rule R113 -/

theorem test_decode_init : decode 0b00010000000000000000000000000000#32 = .ok .init := by decide
theorem test_decode_selpatch : decode 0b00100000000000000000000010110010#32 = .ok (.selpatch 178#8) := by decide
theorem test_decode_noteon : decode 0b00110000000000000011000001100100#32 = .ok (.noteon 48#7 100#7) := by decide
theorem test_decode_noteoff : decode 0b01000000000000000101011100000000#32 = .ok (.noteoff 87#7) := by decide
theorem test_decode_sustain_down : decode 0b01010000000000000000000000000001#32 = .ok (.sustain true) := by decide
theorem test_decode_sustain_up : decode 0b01010000000000000000000000000000#32 = .ok (.sustain false) := by decide
theorem test_decode_tick : decode 0b01100000000000000000000000000000#32 = .ok .tick := by decide
theorem test_decode_chorus : decode 0b01110000000000000000000000000000#32 = .ok .chorus := by decide
theorem test_decode_setmode_two_pi2 : decode 0b10000000000000000000000100000001#32 = .ok (.setmode .two .piHalf) := by
  decide
theorem test_decode_setmode_one_pi : decode 0b10000000000000000000000000000010#32 = .ok (.setmode .one .pi) := by decide

/-- The illegal words of vector T8. -/
theorem test_decode_illegal :
    decode 0x90000000#32 = .error .opcode ∧ decode 0xFFFFFFFF#32 = .error .opcode ∧
    decode 0x10000001#32 = .error .operandBits ∧ decode 0x20000100#32 = .error .operandBits ∧
    decode 0x30000080#32 = .error .operandBits ∧ decode 0x40003001#32 = .error .operandBits ∧
    decode 0x50000002#32 = .error .operandBits ∧ decode 0x60000001#32 = .error .operandBits ∧
    decode 0x80000004#32 = .error .operandBits ∧ decode 0x80000200#32 = .error .operandBits := by decide

/-- Rule R87: a serialised word is least significant byte first. -/
theorem test_decode_bytes : decodeBytes [0x64#8, 0x30#8, 0x00#8, 0x30#8, 0xAA#8] = .ok (.noteon 48#7 100#7, [0xAA#8]) := by
  decide

/-- What the host asks of a table word: it decodes, and the next step runs it (vector F10's INIT). -/
theorem test_fetch_word : decodeTableWord 32 0x10000000 = some .init ∧
    (after (step (State.reset.withFetchWord 32 0x10000000))).status = ⟨true, false⟩ := by decide +kernel

/-! ### One step of each command -/

/-- Vector F1: TICK before INIT. -/
theorem test_tick_before_init : (after (exec .tick State.reset)).status = ⟨false, true⟩ ∧
    (after (exec .tick State.reset)).cause = 1#3 := by decide +kernel

/-- Vector F4: SELPATCH of an index at `NPATCH`. -/
theorem test_selpatch_bad : (after (exec (.selpatch 2#8) ready)).cause = 2#3 ∧
    (after (exec (.selpatch 2#8) ready)).patchSel.v = false := by decide +kernel

/-- The start of vector T11: SELPATCH 1. -/
theorem test_selpatch_good : (selpatch tcfg 1#8 ready).patchSel = ⟨true, 1#8⟩ := by decide +kernel

/-- Voice 0 after NOTEON 48, 100 under TCFG. -/
noncomputable def triggered : Voice := triggerVoice (keyParam tcfg 1#8 48#7) 48#7 100#7 Voice.reset

/-- Vector V1: the scaling constants and an operator of the voice. -/
theorem test_noteon_voice : triggered.eg = ⟨0#12, 0#12, 256#12, 512#12⟩ ∧
    triggered.op.get .m2 = { OpRegs.reset with cw := 0xC00000#28, ar := 0x40000#20, dr := 0x400#20, rr := 0x20000#20 } := by
  decide +kernel

/-- Vector F5: NOTEON above the key range. -/
theorem test_noteon_bad_note : (after (exec (.noteon 88#7 0#7) selected)).cause = 3#3 ∧
    (after (exec (.noteon 88#7 0#7) selected)).rridx = 0#5 := by decide +kernel

/-- Vector V2: NOTEOFF of the held note. -/
theorem test_noteoff_releases : ((after (exec (.noteoff 48#7) held)).voice 0).noteOn = false ∧
    ((after (exec (.noteoff 48#7) held)).voice 0).gateNew = false := by decide +kernel

/-- Vector V4: NOTEOFF with the pedal down keeps the gate request. -/
theorem test_noteoff_sustained : releaseFlags 48#7 { holding with sustaining := true } =
    { holding with sustaining := true, noteOn := false } := by decide

/-- Vector V6: the pedal up leaves a held voice's gate request. -/
theorem test_sustain_up_held : (after (exec (.sustain false) held)).voice 0 = holding := by decide +kernel

/-- Vector V5: the pedal up lowers the request of a voice that is not held. -/
theorem test_sustain_up_released : (pedalFlags false { holding with noteOn := false, sustaining := true }).gateNew = false := by
  decide

/-- Vector V7: SETMODE 2, CROSS. -/
theorem test_setmode : (after (exec (.setmode .two .cross) held)) = { held with mode2 := .cross } := by decide +kernel

/-- Vector F10: INIT twice. -/
theorem test_init_twice : after (exec .init ready) = ready := by decide +kernel

/-- Vector T9 (c): the counters wrap, the taps at delay 0 read the sample just written. -/
theorem test_chorus_wraps :
    (chorus { tcfg with lfo := fun _ _ => 0 } { ready with mix := BitVec.ofInt 18 (-5), wp := 63#6, chtick := 65535#16 }) =
      { ready with
          mix := BitVec.ofInt 18 (-5), outl := BitVec.ofInt 20 (-15), outr := BitVec.ofInt 20 (-15),
          dl := ⟨[(63, BitVec.ofInt 18 (-5))], [(63, BitVec.ofInt 18 (-5))], [(63, BitVec.ofInt 18 (-5))]⟩ } := by
  decide +kernel

/-- Vector T9 (a), line 4: `MIX` 400 at `WP` 3 over the samples 100, 200, 300. -/
theorem test_chorus_taps :
    let d : Memory := [(0, 100#18), (1, 200#18), (2, 300#18)]
    let t := chorus tcfg { ready with mix := 400#18, wp := 3#6, chtick := 3#16, dl := ⟨d, d, d⟩ }
    t.outl = 500#20 ∧ t.outr = 700#20 ∧ t.wp = 4#6 := by decide +kernel

/-- Voice 0 of program P1 after its TICK 4. -/
noncomputable def beforePeak : Voice :=
  { triggered with
      gate := true, gateOld := true
      op := Quad.ofFn fun i =>
        { OpRegs.reset with
            stage := .attack, ea := 0xC0000#20, eax := 0xC0000#20, eao := 0xC0000#20, ar := 0x40000#20, dr := 0x400#20,
            rr := 0x20000#20, cw := Quad.get ⟨0x400000#28, 0x400000#28, 0x800000#28, 0xC00000#28⟩ i
            pa := Quad.get ⟨0x1000000#28, 0x1000000#28, 0x2000000#28, 0x3000000#28⟩ i } }

/-- Program P1, TICK 5: `MIX` is 29 and the attack has ended. -/
theorem test_tick_mix : (tick tcfg (selected.setVoice 0 beforePeak)).mix = 29#18 ∧
    (((tick tcfg (selected.setVoice 0 beforePeak)).voice 0).op.get .m2).stage = .decay ∧
    ((tick tcfg (selected.setVoice 0 beforePeak)).voice 0).m1old1 = 12#14 := by decide +kernel

/-! ### The datapath -/

/-- Vector T1. -/
theorem test_logsin : logSin params 1 = 0x06C3 ∧ logSin params 257 = 0 ∧ logSin params 513 = 0x86C3 ∧
    logSin params (-1) = 0x8859 := by decide +kernel

/-- Vector T2. -/
theorem test_expof : expOf params 0x00FF = 128 ∧ expOf params 0x80FF = -129 ∧ expOf params 0xFFFF = -1 ∧
    expOf params 0x10000 = 255 := by decide +kernel

/-- Vector T3. -/
theorem test_opeval : opEval params 700 128#12 = -166 ∧ opEval params (-1) 0#12 = -1 ∧
    opEval params 600 4094#12 = -1 ∧ opEval params 600 4095#12 = 0 := by decide +kernel

/-- Vector T4. -/
theorem test_phase : phaseStep { OpRegs.reset with pa := 0xFFC0000#28, cw := 0x400000#28 } =
    { OpRegs.reset with pa := 0x3C0000#28, cw := 0x400000#28, pae := 15#10 } := by decide +kernel

/-- Vector T5. -/
theorem test_amp : (ampStep 3078#12 127#7 { OpRegs.reset with eax := 0xFFFFF#20 }).amp = 4094#12 ∧
    (ampStep 4095#12 127#7 { OpRegs.reset with eax := 0xFFFFF#20 }).amp = 4095#12 ∧
    (ampStep 0#12 0#7 { OpRegs.reset with eax := 0xFFEFF#20 }).amp = 1#12 := by decide +kernel

/-- Vector E3: the attack clamps and ends, with no decay in the same tick. -/
theorem test_attack_ends :
    egStep params true true { OpRegs.reset with stage := .attack, ea := 0xF0000#20, eax := 0xF0000#20, eao := 0xF0000#20,
                                                ar := 0x40000#20, dr := 0x8000#20 } =
      { OpRegs.reset with stage := .decay, ea := 0xFFFFF#20, eax := 0xFFFFF#20, eao := 0xFFFFF#20, ar := 0x40000#20,
                          dr := 0x8000#20 } := by decide +kernel

/-- `params` with the two Boolean parameters set (rules R172, R216). -/
def bothFlags : Params := { params with egDecaySameTick := true, pi2GateQuirk := true }

/-- Vector E3b: with `EG_DECAY_SAME_TICK` the decay starts in the same tick. -/
theorem test_decay_same_tick :
    egStep bothFlags true true { OpRegs.reset with stage := .attack, ea := 0xF0000#20, eax := 0xF0000#20,
                                                   eao := 0xF0000#20, ar := 0x40000#20, dr := 0x8000#20 } =
      { OpRegs.reset with stage := .decay, ea := 0xF7FFF#20, eax := 0xF52FB#20, eao := 0xF7FFF#20, ar := 0x40000#20,
                          dr := 0x8000#20 } := by decide +kernel

/-- Vector E8: a falling edge in decay. -/
theorem test_release_entry :
    egStep params true false { OpRegs.reset with stage := .decay, ea := 0x80000#20, eao := 0x80000#20,
                                                 eax := 0x699E6#20, rr := 0x20000#20 } =
      { OpRegs.reset with stage := .idle, ea := 0x60000#20, eao := 0x60000#20, eax := 0x47E64#20, rr := 0x20000#20,
                          rs := 0x80000#20, rsx := 0x699E6#20, rra := 0x20000#20 } := by decide +kernel

/-- Vector E10: the release guard. -/
theorem test_release_guard :
    (egStep params false false { OpRegs.reset with ea := 0x10000#20, eao := 0x10000#20, eax := 0x1234#20,
                                                   rs := 0x80000#20, rsx := 0x699E6#20, rra := 0x20000#20 }).ea = 0#20 := by
  decide +kernel

/-- The inputs of vector T7. -/
def network (c1 c2 m1 m2 : BitVec 12) : Voice :=
  { Voice.reset with
      m1old1 := 200#14, m1old2 := 120#14, m2old1 := BitVec.ofInt 14 (-200), m2old2 := BitVec.ofInt 14 (-121)
      op := ⟨{ OpRegs.reset with pae := 100#10, amp := c1 }, { OpRegs.reset with pae := 300#10, amp := c2 },
             { OpRegs.reset with pae := 200#10, amp := m1 }, { OpRegs.reset with pae := 700#10, amp := m2 }⟩ }

/-- Rule R216 with `PI2_GATE_QUIRK` on the inputs of vector N3: at `AMP[1]` = 4095 `M[2]` is silent; at `AMP[3]` = 4095
it is not, but `expOf(logSin(679) + 4095)`, a negative value shifted down to -1; without the parameter the two are the
other way round; and in PI the parameter does nothing (vector N2). -/
theorem test_gate_quirk :
    (modulators bothFlags .pi .piHalf (network 0#12 4095#12 0#12 128#12)).2 = 0 ∧
    (modulators bothFlags .pi .piHalf (network 0#12 256#12 0#12 4095#12)).2 = -1 ∧
    (modulators params .pi .piHalf (network 0#12 4095#12 0#12 128#12)).2 = -155 ∧
    (modulators params .pi .piHalf (network 0#12 256#12 0#12 4095#12)).2 = 0 ∧
    (modulators bothFlags .piHalf .pi (network 0#12 4095#12 0#12 128#12)).2 = -142 := by decide +kernel

/-- Vectors N2, N4, N5 and N6: the sample in four pairs of topologies. -/
theorem test_topologies :
    networkSample params .piHalf .pi (network 0#12 256#12 0#12 128#12) = 319 ∧
    networkSample params .cross .norm (network 0#12 256#12 0#12 128#12) = 299 ∧
    networkSample params .norm .cross (network 0#12 256#12 0#12 128#12) = 343 ∧
    networkSample params .cross .cross (network 0#12 256#12 0#12 128#12) = 240 := by decide +kernel

/-- Rule R15's round: halves away from zero, on both sides of it. -/
theorem test_round : roundAway (3 / 2) = 2 ∧ roundAway (-3 / 2) = -2 ∧ roundAway (-1 / 4) = 0 := by
  refine ⟨?_, ?_, ?_⟩ <;> simp only [roundAway] <;> split_ifs <;> first | (exfalso; linarith) | norm_num

/-- Rule R248's detune: 1200 cents are an octave. -/
theorem test_detune : detune 1200 = 2 ∧ detune (-1200) = 1 / 2 := by
  constructor <;> norm_num [detune, Real.rpow_neg_one]

/-! ### Witnesses: for each statement with hypotheses, data that meets them all -/

/-- A next state of any command. -/
theorem exec_answers (i : Instr) (s : State) : ∃ t, exec i s = .next t := ⟨_, exec_eq i s⟩

/-- A next state of a step with a command word presented. -/
theorem step_answers (i : Instr) (w : Word) (s : State) (h : decode w = .ok i) : ∃ t, step (given w s) = .next t :=
  ⟨_, by rw [step_word (w := w) (rest := []) rfl, h]; exact exec_eq _ _⟩

theorem witness_EncodeOfDecode : decode 0x30007F7F#32 = .ok (.noteon 127#7 127#7) := by decide

theorem witness_IllegalWordRaisesIllegal : (given 0#32 ready).port = [.word 0#32] ∧
    (given 0#32 ready).status.fault = false ∧ ∀ r ∈ opcodeRows, 0#32 &&& r.mask ≠ r.value := by decide +kernel

/-- One word for each way rule R114 names, in the order of the statement's clauses; each matches no row. -/
theorem witness_IllegalWordRaisesIllegal_clauses :
    ([0x00000000#32, 0x90000000#32, 0x10010000#32, 0x18000000#32, 0x10000001#32, 0x60008000#32, 0x70000001#32,
      0x20000100#32, 0x30008000#32, 0x30000080#32, 0x40008000#32, 0x40000001#32, 0x50000002#32, 0x80000200#32,
      0x80000004#32].all fun w => opcodeRows.all fun r => w &&& r.mask != r.value) = true := by decide +kernel

theorem witness_StepRunsDecodedCommand : (given 0x60000000#32 ready).port = [.word 0x60000000#32] ∧
    decode 0x60000000#32 = .ok .tick ∧ ready.port = [] := by decide +kernel

theorem witness_OnlyResetClearsAFault :
    (halted.setPort [.reset]).port = [.reset] ∧ (given 0x10000000#32 halted).Halted ∧
    (∃ t, step (given 0x10000000#32 halted) = .next t) ∧
    ∀ rest, (given 0x10000000#32 halted).port ≠ .reset :: rest := by
  refine ⟨rfl, rfl, step_answers .init _ _ (by decide), fun rest => ?_⟩
  simp [given]

theorem witness_HaltIgnoresEveryWord : halted.Halted ∧ (given 0#32 halted).port = [.word 0#32] := by decide +kernel

theorem witness_FaultEntryIsPrecise : (∃ t, exec .tick State.reset = .next t) ∧ State.reset.status.fault = false ∧
    (after (exec .tick State.reset)).status.fault = true := by
  refine ⟨exec_answers _ _, ?_, ?_⟩ <;> decide +kernel

/-- The premises, for one presented word of each clause; the clauses' own premises follow. -/
theorem witness_FaultPriority : selected.status = ⟨true, false⟩ ∧ selected.cause = 0#3 ∧
    decode 0#32 = .error .opcode ∧ State.reset.status.ready = false ∧ decode 0x60000000#32 = .ok .tick ∧
    decode 0x10000000#32 = .ok .init ∧ decode 0x20000002#32 = .ok (.selpatch 2#8) ∧
    decode 0x20000001#32 = .ok (.selpatch 1#8) ∧ ready.patchSel.v = false ∧ selected.patchSel.v = true ∧
    decode 0x30005800#32 = .ok (.noteon 88#7 0#7) ∧ decode 0x30005700#32 = .ok (.noteon 87#7 0#7) ∧
    decode 0x40005800#32 = .ok (.noteoff 88#7) ∧ decode 0x40000000#32 = .ok (.noteoff 0#7) ∧
    decode 0x50000000#32 = .ok (.sustain false) ∧ decode 0x70000000#32 = .ok .chorus ∧
    decode 0x80000003#32 = .ok (.setmode .one .cross) := by decide +kernel

/-- The edges of the supported sets: index 1 holds a record and 2 is at `NPATCH`; notes 0 and 87 are in the key range
and 88 is not. -/
theorem witness_supported_sets : params.npatch ≤ (2#8).toNat ∧ (1#8).toNat < params.npatch ∧
    params.patchMem 1#8 ≠ none ∧ params.keyLo ≤ (0#7).toNat ∧ (87#7).toNat ≤ params.keyHi ∧
    params.keyHi < (88#7).toNat := by
  refine ⟨by decide, by decide, Option.some_ne_none _, by decide, by decide, by decide⟩

theorem witness_InitMarksTablesUsable : State.reset.status.fault = false ∧ ready.Running ∧ Instr.tick ≠ .init ∧
    State.reset.status.ready = false := by decide +kernel

theorem witness_SelpatchSelectsSupportedPatch : ready.Running ∧ (1#8).toNat < params.npatch ∧
    params.patchMem 1#8 ≠ none ∧ params.npatch ≤ (2#8).toNat :=
  ⟨by decide +kernel, by decide, Option.some_ne_none _, by decide⟩

theorem witness_SetmodeWritesOneMode : ready.Running := by decide +kernel

theorem witness_NoteonTriggersNextVoice : ready.Running ∧ ready.patchSel.v = false ∧ selected.Running ∧
    selected.patchSel.v = true ∧ params.keyHi < (88#7).toNat ∧ params.keyLo ≤ (87#7).toNat ∧
    (87#7).toNat ≤ params.keyHi := by decide +kernel

theorem witness_NoteoffReleasesHolders : held.Running ∧ params.keyHi < (88#7).toNat ∧ params.keyLo ≤ (48#7).toNat ∧
    (48#7).toNat ≤ params.keyHi ∧ (held.voice 0).noteOn = true ∧ (held.voice 0).note = 48#7 := by decide +kernel

theorem witness_SustainMovesEveryPedal : held.Running ∧ (held.voice 1).noteOn = false := by decide +kernel

/-- The 33 notes of program P3. -/
theorem witness_AllocationIsRoundRobin : selected.Running ∧ selected.patchSel.v = true ∧
    (∀ k ∈ List.replicate 33 ((87#7, 64#7) : BitVec 7 × BitVec 7),
      params.keyLo ≤ k.1.toNat ∧ k.1.toNat ≤ params.keyHi) ∧
    (List.replicate 33 ((87#7, 64#7) : BitVec 7 × BitVec 7)).length ≤ 1 + 32 := by
  refine ⟨by decide +kernel, by decide +kernel, fun k hk => ?_, by simp⟩
  rw [List.eq_of_mem_replicate hk]
  decide

theorem witness_ControlWordIsRoundedQuotient : ∃ f x : ℝ,
    KeyLegal tcfg.eaInit tcfg.patchMem tcfg.key ∧ tcfg.patchMem 1#8 = some record ∧
    f = (tcfg.key.baseFreq 48#7 : ℝ) * (2 : ℝ) ^ (record.detuneCents.get .c1 / 1200) * record.ratio.get .c1 ∧
    f ≠ 0 ∧ x = 2 ^ 28 / ((tcfg.key.fsInternal : ℝ) / f) := by
  refine ⟨_, _, tcfg_legal, rfl, rfl, ?_, rfl⟩
  norm_num [tcfg, tcfgKey, tcfgBase, record, Quad.get, Quad.all]

/-- The premises of the NOTEON clause on this machine. -/
theorem witness_EnvelopeRatesRiseWithTheNote_noteon : selected.Running ∧ selected.patchSel.v = true ∧
    params.keyLo ≤ (48#7).toNat ∧ (48#7).toNat ≤ params.keyHi ∧
    params.patchMem selected.patchSel.idx = some openKey.patch1 :=
  ⟨by decide +kernel, rfl, by decide, by decide, rfl⟩

/-- The premises of the clauses about every legal instantiation, with a scale of 1 and an attack of 4 ticks that the rate
0x40000 meets only up to rounding. -/
theorem witness_EnvelopeRatesRiseWithTheNote : KeyLegal tcfg.eaInit tcfg.patchMem tcfg.key ∧
    tcfg.patchMem 1#8 = some record ∧ (0#7).toNat ≤ (127#7).toNat ∧ (0 : ℝ) < 0 * (127#7 : BitVec 7).toNat + 1 ∧
    0 < record.attackTime.get .c1 ∧ ((((keyParam tcfg 1#8 127#7).get .c1).ar.toNat : Nat) : ℝ) < 0xFFFFF ∧
    (1 : ℝ) < ((keyParam tcfg 1#8 127#7).get .c1).ar.toNat := by
  refine ⟨tcfg_legal, rfl, by decide, by norm_num, ?_, ?_, ?_⟩ <;>
    norm_num [record, Quad.get, Quad.all, keyParam, tcfg, tcfgKey]

/-- A factor at each end of its range and inside it, and a curve whose calibration bounds are equal. -/
theorem witness_ScalingConstantIsRemapped : KeyLegal tcfg.eaInit tcfg.patchMem tcfg.key ∧
    tcfg.patchMem 1#8 = some record ∧ (∀ x, (curve x)[0] = 0 ∧ (curve x)[1] = 1) ∧
    (curve 0)[curveIndex 87#7] = 0 ∧ (curve 1)[curveIndex 0#7] = 1 ∧ (curve (1 / 2))[curveIndex 48#7] = 1 / 2 ∧
    (Vector.replicate 46 (3 : ℝ))[1] = (Vector.replicate 46 (3 : ℝ))[0] ∧
    (curveIndex 86#7).val = 45 ∧ (curveIndex 87#7).val = 45 := by
  refine ⟨tcfg_legal, rfl, fun x => ⟨by simp [curve], by simp [curve]⟩, ?_, ?_, ?_, by simp, by decide, by decide⟩ <;>
    simp [curve, curveIndex]

/-- Both edges of each quarter. -/
theorem witness_LogSinQuarters : ((0 : Nat) : Int) = 1024 % 1024 ∧ ((255 : Nat) : Int) = 255 % 1024 ∧
    ((256 : Nat) : Int) = 256 % 1024 ∧ ((511 : Nat) : Int) = 511 % 1024 ∧ ((512 : Nat) : Int) = -512 % 1024 ∧
    ((767 : Nat) : Int) = 767 % 1024 ∧ ((768 : Nat) : Int) = 768 % 1024 ∧ ((1023 : Nat) : Int) = -1 % 1024 := by decide

theorem witness_LogSinSymmetries : (0 : Int) ≤ 0 ∧ (0 : Int) ≤ 511 ∧ (511 : Int) ≤ 511 := by decide

theorem witness_ExpOfRange : 0x7FFF % 65536 < 32768 ∧ 32768 ≤ 0x8000 % 65536 := by decide

/-- An operator in attack at `ea` with attack rate `ar`. -/
def attacking (ea ar : BitVec 20) : OpRegs := { OpRegs.reset with stage := .attack, ea := ea, eax := ea, eao := ea, ar := ar }

/-- An operator in decay at `ea` with decay rate `dr`. -/
def decaying (ea dr : BitVec 20) : OpRegs := { OpRegs.reset with stage := .decay, ea := ea, eax := ea, eao := ea, dr := dr }

/-- Each clause: an attack that stops one short of the maximum, at a rising edge and after it; the three ways to end an
attack; both values of `EG_DECAY_SAME_TICK`; a decay that clamps; a sustain; an idle stage. -/
theorem witness_GatedEnvelopeStep :
    (0xFFFFE#20).toNat = min (params.eaInit.toNat + (attacking 0#20 0xFFFFE#20).ar.toNat) 0xFFFFF ∧
    (attacking 0xFFFFD#20 1#20).stage = .attack ∧
    (0xFFFFE#20).toNat = min ((attacking 0xFFFFD#20 1#20).ea.toNat + (attacking 0xFFFFD#20 1#20).ar.toNat) 0xFFFFF ∧
    0xFFFFE#20 ≠ 0xFFFFF#20 ∧ 0xFFFFF ≤ params.eaInit.toNat + (attacking 0#20 0xFFFFF#20).ar.toNat ∧
    (attacking 0xFFFFE#20 1#20).ea ≠ 0xFFFFF#20 ∧
    0xFFFFF ≤ (attacking 0xFFFFE#20 1#20).ea.toNat + (attacking 0xFFFFE#20 1#20).ar.toNat ∧
    (attacking 0xFFFFF#20 1#20).ea = 0xFFFFF#20 ∧ params.egDecaySameTick = false ∧
    bothFlags.egDecaySameTick = true ∧ bothFlags.eaSustain ≠ 0xFFFFF#20 ∧
    ((0xFFFFF#20).toNat : Int) = max (0xFFFFF - ((attacking 0#20 0xFFFFF#20).dr.toNat : Int)) bothFlags.eaSustain.toNat ∧
    (decaying 1#20 5#20).stage = .decay ∧ params.eaSustain.toNat < (decaying 1#20 5#20).ea.toNat ∧
    ((0#20).toNat : Int) = max (((decaying 1#20 5#20).ea.toNat : Int) - (decaying 1#20 5#20).dr.toNat) params.eaSustain.toNat ∧
    (decaying 0#20 5#20).ea.toNat ≤ params.eaSustain.toNat ∧ OpRegs.reset.stage = .idle := by decide

/-- Both clauses, the second at vector E10, where the guard acts. -/
theorem witness_UngatedEnvelopeStep :
    let o : OpRegs := { OpRegs.reset with ea := 0x10000#20, eao := 0x10000#20, rra := 0x20000#20 }
    OpRegs.reset.ea = 0#20 ∧ o.ea ≠ 0#20 ∧ ((0xF0000#20).toNat : Int) = ((o.ea.toNat : Int) - o.rra.toNat) % 2 ^ 20 ∧
    0#20 = (if o.eao.toNat < (0xF0000#20).toNat then 0#20 else 0xF0000#20) := by decide

theorem witness_ReleaseSubtractsDownToZero : (decaying 0x80000#20 1#20).eao = (decaying 0x80000#20 1#20).ea := by decide

theorem witness_EnvelopeIsMonotone : (attacking 1#20 1#20).stage = .attack ∧ (decaying 1#20 1#20).stage = .decay ∧
    (decaying 1#20 1#20).eao = (decaying 1#20 1#20).ea := by decide

/-- The attack of program P1: four evaluations. -/
theorem witness_AttackReachesCeilingInTime : 0 < (attacking 0#20 0x40000#20).ar.toNat ∧
    4 = (0xFFFFF - params.eaInit.toNat + (attacking 0#20 0x40000#20).ar.toNat - 1) / (attacking 0#20 0x40000#20).ar.toNat ∧
    2 < 4 - 1 := by decide

/-- The release of program P4: eight evaluations. -/
theorem witness_ReleaseReachesSilenceInTime :
    let o : OpRegs := { decaying 0xFEBFF#20 0x400#20 with rr := 0x20000#20 }
    o.eao = o.ea ∧ 0 < o.ea.toNat ∧ 0 < o.rr.toNat ∧ 8 = (o.ea.toNat + o.rr.toNat - 1) / o.rr.toNat ∧ 8 ≤ 7 + 1 ∧
    6 + 1 < 8 := by decide

theorem witness_ShapesAreMonotoneAndHitTheEnds : (0#20).toNat ≤ (0#20).toNat ∧ (0#20).toNat ≤ (0xFFFFF#20).toNat ∧
    0x80000#20 ≠ 0#20 := by decide

theorem witness_PhaseWrapsAndAmplitudeClamps : OpRegs.reset.eax = 0#20 := by decide

theorem witness_OperatorOutput : (4095#12 : BitVec 12) = 4095#12 ∧ (4094#12 : BitVec 12) ≠ 4095#12 := by decide

/-- Each clause: both stacks in CROSS, and the parameter set with each of the two attenuations of stack 2 at 4095. -/
theorem witness_TopologiesOfTheModulators :
    modulators params .cross .cross (network 0#12 256#12 0#12 128#12) = (0, -166) ∧
    params.pi2GateQuirk = false ∧ bothFlags.pi2GateQuirk = true ∧
    modulators bothFlags .norm .piHalf (network 0#12 4095#12 4095#12 128#12) = (0, 0) ∧
    modulators bothFlags .norm .piHalf (network 0#12 256#12 0#12 4095#12) = (240, -1) := by decide +kernel

theorem witness_CarriersSampleAndHistory :
    modulators params .norm .cross (network 0#12 256#12 0#12 128#12) = (240, -89) := by decide +kernel

theorem witness_DecayedVoiceStaysSilent : Voice.reset.gateNew = false ∧ Voice.reset.gate = false ∧
    Voice.reset.gateOld = false ∧ ∀ i, (Voice.reset.op.get i).ea = 0#20 ∧ (Voice.reset.op.get i).eax = 0#20 :=
  ⟨rfl, rfl, rfl, fun i => by cases i <;> exact ⟨rfl, rfl⟩⟩

theorem witness_VoiceTickOrder : modulators params .pi .norm
    { holding with op := (voiceTick params .pi .norm holding).op } = (0, 0) := by decide +kernel

theorem witness_DelaysStayInBounds : tcfg.lfo .a 3#16 ≤ 61 ∧ tcfg.lfo .b 2#16 ≤ 60 ∧ tcfg.lfo .c 1#16 ≤ 63 := by
  decide +kernel

theorem witness_TickAdvancesEveryVoice : held.Running := by decide +kernel

theorem witness_NoteonActsTwoTicksLater : selected.Running ∧ selected.patchSel.v = true ∧
    params.keyLo ≤ (0#7).toNat ∧ (0#7).toNat ≤ params.keyHi := by decide +kernel

theorem witness_TriggerAndReleaseStartsNoAttack : selected.Running ∧ selected.patchSel.v = true ∧
    params.keyLo ≤ (48#7).toNat ∧ (48#7).toNat ≤ params.keyHi ∧
    (selected.voice (voiceIdx selected.rridx)).sustaining = false := by decide +kernel

theorem ready_memoryWf : ready.MemoryWf := by intro k; cases k <;> rfl

theorem witness_ChorusPushesReadsAndAdvances : ready.Running ∧ ready.MemoryWf := ⟨by decide +kernel, ready_memoryWf⟩

theorem witness_CanonicalLinesAreUnique : Memory.wf [(0, 1#18), (63, 5#18)] = true ∧
    ∀ a, Memory.read [(0, 1#18), (63, 5#18)] a = Memory.read [(0, 1#18), (63, 5#18)] a := ⟨by decide, fun _ => rfl⟩

/-- The first two conjuncts refuse an element equal to what an unlisted index reads as, and an index out of order. -/
theorem test_memory_wf : Memory.wf [(3, 0#18)] = false ∧ Memory.wf [(3, 1#18), (3, 2#18)] = false ∧
    Memory.wf [(64, 1#18)] = false ∧ Memory.write 3 0#18 [(1, 1#18), (3, 2#18)] = [(1, 1#18)] := by decide

theorem witness_FrameOfSetupCommands : (∃ t, exec .init State.reset = .next t) ∧
    (∃ t, exec (.selpatch 1#8) ready = .next t) ∧ ∃ t, exec (.setmode .one .pi) ready = .next t :=
  ⟨exec_answers _ _, exec_answers _ _, exec_answers _ _⟩

theorem witness_FrameOfNoteCommands : (∃ t, exec (.noteon 48#7 100#7) selected = .next t) ∧
    (∃ t, exec (.noteoff 48#7) held = .next t) ∧ ∃ t, exec (.sustain true) held = .next t :=
  ⟨exec_answers _ _, exec_answers _ _, exec_answers _ _⟩

theorem witness_FrameOfTick : (∃ t, exec .tick held = .next t) ∧
    falling (held.voice 0).gateOld (held.voice 0).gate = false := ⟨exec_answers _ _, by decide +kernel⟩

theorem witness_FrameOfChorus : ready.MemoryWf ∧ (∃ t, exec .chorus ready = .next t) ∧ 63 ≠ ready.wp.toNat :=
  ⟨ready_memoryWf, exec_answers _ _, by decide⟩

theorem witness_CountersAdvanceOnTheirOwnCommands :
    (after (exec (.noteon 48#7 100#7) selected)).rridx ≠ selected.rridx ∧
    (after (exec .chorus ready)).wp ≠ ready.wp := by decide +kernel

theorem witness_KeyParametersAreWrittenOnlyByNoteon : (∃ t, exec (.noteon 48#7 0#7) selected = .next t) ∧
    (1 : Fin 32) ≠ voiceIdx selected.rridx ∧ ∀ n l, Instr.tick ≠ .noteon n l :=
  ⟨exec_answers _ _, by decide +kernel, by simp⟩

theorem witness_AppliedGatesMoveOnlyOnTick : (∃ t, exec (.noteon 48#7 0#7) selected = .next t) ∧
    selected.Running ∧ selected.patchSel.v = true ∧ params.keyLo ≤ (48#7).toNat ∧ (48#7).toNat ≤ params.keyHi ∧
    (∃ t, exec .tick held = .next t) ∧ held.Running :=
  ⟨exec_answers _ _, by decide +kernel, rfl, by decide, by decide, exec_answers _ _, by decide +kernel⟩

theorem witness_ConfigurationIsReadInOnePlace : (∃ t, exec .tick held = .next t) ∧
    (∃ t, exec (.noteon 48#7 0#7) selected = .next t) ∧ (∀ n l, Instr.tick ≠ .noteon n l) ∧
    (∀ idx, Instr.tick ≠ .selpatch idx) ∧ Instr.noteon 48#7 0#7 ≠ .tick ∧
    ∀ st m, Instr.noteon 48#7 0#7 ≠ .setmode st m :=
  ⟨exec_answers _ _, exec_answers _ _, by simp, by simp, by simp, by simp⟩

theorem witness_StepKeepsDelayLines : (∃ t, step (given 0x70000000#32 ready) = .next t) ∧
    (given 0x70000000#32 ready).MemoryWf ∧ (given 0x70000000#32 ready).LinesEqual :=
  ⟨step_answers .chorus _ _ (by decide), ready_memoryWf, rfl, rfl⟩

theorem given_voice (w : Word) (v : Fin 32) : (given w ready).voice v = Voice.reset := State.reset_voice v

theorem witness_StepKeepsEnvelopes : (∃ t, step (given 0x60000000#32 ready) = .next t) ∧
    (given 0x60000000#32 ready).EnvelopesOk := by
  refine ⟨step_answers .tick _ _ (by decide), fun v i => ?_⟩
  rw [given_voice]
  constructor <;> cases i <;> simp [Voice.reset, Quad.all, Quad.get, OpRegs.reset]

theorem witness_StepKeepsComputedRanges : (∃ t, step (given 0x60000000#32 ready) = .next t) ∧
    (given 0x60000000#32 ready).MemoryWf ∧ (given 0x60000000#32 ready).RangesOk := by
  refine ⟨step_answers .tick _ _ (by decide), ready_memoryWf, ?_, by decide, fun k a => ?_, by decide, by decide⟩
  · intro v
    rw [given_voice]
    decide
  · cases k <;> exact (by decide : inMixRange (0#18 : Sample).toInt)

theorem witness_StepKeepsRegistersConsistent : (∃ t, step (given 0x60000000#32 selected) = .next t) ∧
    (given 0x60000000#32 selected).FaultRecorded ∧ (given 0x60000000#32 selected).PedalUniform ∧
    (given 0x60000000#32 selected).PatchSelected ∧ (given 0x60000000#32 selected).PhasesOk := by
  have hv : ∀ v, (given 0x60000000#32 selected).voice v = Voice.reset := State.reset_voice
  refine ⟨step_answers .tick _ _ (by decide), by unfold State.FaultRecorded; decide, fun v w => ?_, fun _ => rfl,
    fun v i => ?_⟩
  · rw [hv, hv]
  · rw [hv]
    cases i <;> rfl

/-- The rest of what the spec requires of every instantiation, the shapes apart, which are the default ones. -/
theorem witness_ParamsLegal_ranges : tcfg.keyLo ≤ tcfg.keyHi ∧ tcfg.keyHi ≤ 127 ∧ tcfg.npatch ≤ 256 ∧ tcfg.dlCap = 64 :=
  ⟨by decide, by decide, by decide, rfl⟩

/-- The default reset modes are those of `params`; another machine's are its own. -/
theorem test_mode_reset : State.reset.mode1 = .norm ∧ (State.resetWith { params with modeReset2 := .cross }).mode2 = .cross := by
  decide +kernel

end Sys2Proof.Tests
end

section
/-! PROOFS. The statements about the state (10_state.md). First what a completed command and a step can do, each said
once; then the invariants, clause by clause; then the statements. -/

namespace Sys2Proof.Machine

/-! ### What a command and a step can do -/

/-- `Completes s i t`: the command `i`, its checks passed (rule R120), takes `s` to `t` without a fault. -/
inductive Completes (s : State) : Instr → State → Prop where
  | init : Completes s .init s.setReady
  | selpatch (idx : BitVec 8) (supported : patchSupported params idx = true) :
      Completes s (.selpatch idx) (s.selectPatch idx)
  | noteon (note vel : BitVec 7) :
      Completes s (.noteon note vel) ((s.setRridx (s.rridx + 1#5)).setVoice (voiceIdx s.rridx)
        (triggerVoice (keyParam params s.patchSel.idx note) note vel (s.voice (voiceIdx s.rridx))))
  | noteoff (note : BitVec 7) : Completes s (.noteoff note) (s.mapVoice (releaseFlags note))
  | sustain (down : Bool) : Completes s (.sustain down) (s.mapVoice (pedalFlags down))
  | tick : Completes s .tick (tick params s)
  | chorus : Completes s .chorus (chorus params s)
  | setmode (stack : StackId) (mode : Mode) : Completes s (.setmode stack mode) (s.setModeOf stack mode)

/-- The effect of a command is a fault or a completed command. -/
theorem effect_cases (i : Instr) (s : State) : (∃ c, effect i s = raiseFault c s) ∨ Completes s i (effect i s) := by
  cases i with
  | init => exact .inr .init
  | selpatch idx =>
    obtain ⟨hp, he⟩ | ⟨-, he⟩ := selpatch_cases params idx s
    · exact .inr (by simpa [effect, he] using Completes.selpatch idx hp)
    · exact .inl ⟨_, he⟩
  | noteon note vel =>
    obtain ⟨-, he⟩ | ⟨-, -, he⟩ | ⟨-, -, he⟩ := noteon_cases params note vel s
    · exact .inl ⟨_, he⟩
    · exact .inl ⟨_, he⟩
    · exact .inr (by simpa [effect, he] using Completes.noteon note vel)
  | noteoff note =>
    obtain ⟨-, he⟩ | ⟨-, he⟩ := noteoff_cases params note s
    · exact .inl ⟨_, he⟩
    · exact .inr (by simpa [effect, he] using Completes.noteoff note)
  | sustain down => exact .inr (.sustain down)
  | tick => exact .inr .tick
  | chorus => exact .inr .chorus
  | setmode stack mode => exact .inr (.setmode stack mode)

/-- A command leaves the state (while halted), raises a fault or completes. -/
theorem exec_next_cases {i : Instr} {s t : State} (h : exec i s = .next t) :
    t = s ∨ (∃ c, t = raiseFault c s) ∨ Completes s i t := by
  obtain ⟨-, rfl⟩ | ⟨-, -, -, rfl⟩ | ⟨-, -, rfl⟩ := exec_cases h
  · exact .inl rfl
  · exact .inr (.inl ⟨_, rfl⟩)
  · exact .inr (effect_cases i s)

/-- A word that is no command leaves the state (while halted) or raises `E_ILLEGAL`. -/
theorem illegalWord_cases {s t : State} (h : illegalWord s = .next t) : t = s ∨ t = raiseFault .illegal s := by
  unfold illegalWord unlessHalted at h
  split at h
  · exact .inl (Host.Outcome.next.inj h).symm
  · exact .inr (Host.Outcome.next.inj h).symm

/-- Everything a step can do to the state: nothing; the reset input; or, with the word taken from the queue, nothing
more, a fault, or a completed command. -/
theorem step_next_cases {s t : State} (h : step s = .next t) :
    t = s ∨ ∃ rest, t = State.reset.setPort rest ∨ t = s.setPort rest ∨
      (∃ c, t = raiseFault c (s.setPort rest)) ∨ ∃ i, Completes (s.setPort rest) i t := by
  rcases hp : s.port with _ | ⟨w | _, rest⟩
  · rw [step_empty hp] at h
    exact .inl (Host.Outcome.next.inj h).symm
  · rw [step_word hp] at h
    refine .inr ⟨rest, .inr ?_⟩
    rcases hd : decode w with r | i <;> rw [hd] at h
    · obtain h | h := illegalWord_cases h
      · exact .inl h
      · exact .inr (.inl ⟨_, h⟩)
    · obtain h | h | h := exec_next_cases h
      · exact .inl h
      · exact .inr (.inl h)
      · exact .inr (.inr ⟨i, h⟩)
  · rw [step_reset hp] at h
    exact .inr ⟨rest, .inl (Host.Outcome.next.inj h).symm⟩

/-- A predicate that holds at reset, does not read the queue of inputs, and is kept by a fault entry and by every
completed command is kept by every step. -/
theorem step_keeps {I : State → Prop} (reset : I State.reset) (port : ∀ s p, I s → I (s.setPort p))
    (fault : ∀ c s, I s → I (raiseFault c s)) (command : ∀ i s t, Completes s i t → I s → I t)
    {s t : State} (h : step s = .next t) (hs : I s) : I t := by
  obtain rfl | ⟨rest, rfl | rfl | ⟨c, rfl⟩ | ⟨i, hc⟩⟩ := step_next_cases h
  · exact hs
  · exact port _ _ reset
  · exact port _ _ hs
  · exact fault _ _ (port _ _ hs)
  · exact command _ _ _ hc (port _ _ hs)

/-! ### What TICK and CHORUS do to the fields the invariants read -/

@[simp] theorem tick_voice (P : Params) (s : State) (v : Fin 32) :
    (tick P s).voice v = voiceTick P s.mode1 s.mode2 (s.voice v) := by simp [tick]

@[simp] theorem tick_rridx (P : Params) (s : State) : (tick P s).rridx = s.rridx := rfl
@[simp] theorem tick_status (P : Params) (s : State) : (tick P s).status = s.status := rfl
@[simp] theorem tick_cause (P : Params) (s : State) : (tick P s).cause = s.cause := rfl
@[simp] theorem tick_patchSel (P : Params) (s : State) : (tick P s).patchSel = s.patchSel := rfl
@[simp] theorem tick_wp (P : Params) (s : State) : (tick P s).wp = s.wp := rfl
@[simp] theorem tick_chtick (P : Params) (s : State) : (tick P s).chtick = s.chtick := rfl

@[simp] theorem chorus_voice (P : Params) (s : State) (v : Fin 32) : (chorus P s).voice v = s.voice v := rfl
@[simp] theorem chorus_rridx (P : Params) (s : State) : (chorus P s).rridx = s.rridx := rfl
@[simp] theorem chorus_status (P : Params) (s : State) : (chorus P s).status = s.status := rfl
@[simp] theorem chorus_cause (P : Params) (s : State) : (chorus P s).cause = s.cause := rfl
@[simp] theorem chorus_patchSel (P : Params) (s : State) : (chorus P s).patchSel = s.patchSel := rfl
@[simp] theorem chorus_wp (P : Params) (s : State) :
    (chorus P s).wp = BitVec.ofNat 6 ((s.wp.toNat + 1) % P.dlCap) := rfl
@[simp] theorem chorus_chtick (P : Params) (s : State) : (chorus P s).chtick = s.chtick + 1#16 := rfl

/-! ### What a completed command does to each voice and to each global register -/

/-- Everything a completed command can do to one voice. -/
theorem Completes.voice_cases {s t : State} {i : Instr} (h : Completes s i t) (v : Fin 32) :
    t.voice v = s.voice v ∨
    (∃ note vel, i = .noteon note vel ∧ v = voiceIdx s.rridx ∧
      t.voice v = triggerVoice (keyParam params s.patchSel.idx note) note vel (s.voice v)) ∨
    (∃ note, i = .noteoff note ∧ t.voice v = releaseFlags note (s.voice v)) ∨
    (∃ down, i = .sustain down ∧ t.voice v = pedalFlags down (s.voice v)) ∨
    (i = .tick ∧ t.voice v = voiceTick params s.mode1 s.mode2 (s.voice v)) := by
  cases h with
  | init => exact .inl rfl
  | selpatch idx _ => exact .inl rfl
  | noteon note vel =>
    by_cases hv : v = voiceIdx s.rridx
    · subst hv
      exact .inr (.inl ⟨note, vel, rfl, rfl, State.setVoice_voice_same _ _ _⟩)
    · exact .inl (State.setVoice_voice_ne _ _ _ _ hv)
  | noteoff note => exact .inr (.inr (.inl ⟨note, rfl, State.mapVoice_voice _ _ _⟩))
  | sustain down => exact .inr (.inr (.inr (.inl ⟨down, rfl, State.mapVoice_voice _ _ _⟩)))
  | tick => exact .inr (.inr (.inr (.inr ⟨rfl, tick_voice _ _ _⟩)))
  | chorus => exact .inl rfl
  | setmode stack mode => exact .inl (State.setModeOf_voice _ _ _ _)

/-- The pedal flag is moved in every voice alike, by SUSTAIN, or in none. -/
theorem Completes.sustaining_cases {s t : State} {i : Instr} (h : Completes s i t) :
    (∃ down, ∀ v, (t.voice v).sustaining = down) ∨ ∀ v, (t.voice v).sustaining = (s.voice v).sustaining := by
  by_cases hi : ∃ down, i = .sustain down
  · obtain ⟨down, rfl⟩ := hi
    cases h
    exact .inl ⟨down, fun v => by simp⟩
  · refine .inr fun v => ?_
    obtain e | ⟨_, _, -, -, e⟩ | ⟨_, -, e⟩ | ⟨down, he, -⟩ | ⟨-, e⟩ := h.voice_cases v
    · rw [e]
    · rw [e, triggerVoice_sustaining]
    · rw [e, releaseFlags_sustaining]
    · exact absurd ⟨down, he⟩ hi
    · rw [e, voiceTick_sustaining]

/-- No completed command touches `STATUS.FAULT` or `CAUSE`. -/
theorem Completes.fault_cause {s t : State} {i : Instr} (h : Completes s i t) :
    t.status.fault = s.status.fault ∧ t.cause = s.cause := by
  cases h <;> simp

/-- `PATCHSEL` is left alone, or holds a supported patch. -/
theorem Completes.patchSel_cases {s t : State} {i : Instr} (h : Completes s i t) :
    t.patchSel = s.patchSel ∨ ∃ idx, patchSupported params idx = true ∧ t.patchSel = ⟨true, idx⟩ := by
  cases h with
  | selpatch idx supported => exact .inr ⟨idx, supported, rfl⟩
  | _ => exact .inl (by simp)

/-- `RRIDX` is left alone, or advanced by a NOTEON. -/
theorem Completes.rridx_cases {s t : State} {i : Instr} (h : Completes s i t) :
    t.rridx = s.rridx ∨ (∃ n l, i = .noteon n l) ∧ t.rridx = s.rridx + 1#5 := by
  cases h with
  | noteon note vel => exact .inr ⟨⟨note, vel, rfl⟩, rfl⟩
  | _ => exact .inl (by simp)

/-- `WP` and `CHTICK` are left alone, or advanced by a CHORUS. -/
theorem Completes.chorusCounters_cases {s t : State} {i : Instr} (h : Completes s i t) :
    (t.wp = s.wp ∧ t.chtick = s.chtick) ∨
    (i = .chorus ∧ t.wp = BitVec.ofNat 6 ((s.wp.toNat + 1) % 64) ∧ t.chtick = s.chtick + 1#16) := by
  cases h with
  | chorus => exact .inr ⟨rfl, rfl, rfl⟩
  | _ => exact .inl (by simp)

/-- A property that holds of the reset voice and is kept by every update of a single voice holds of all voices after
every step. -/
theorem step_keeps_voices {Q : Voice → Prop} (reset : Q Voice.reset)
    (trigger : ∀ k note vel v, Q v → Q (triggerVoice k note vel v))
    (release : ∀ note v, Q v → Q (releaseFlags note v)) (pedal : ∀ down v, Q v → Q (pedalFlags down v))
    (tick : ∀ m n v, Q v → Q (voiceTick params m n v))
    {s t : State} (h : step s = .next t) (hs : ∀ v, Q (s.voice v)) : ∀ v, Q (t.voice v) := by
  refine step_keeps (I := fun s => ∀ v, Q (s.voice v)) (fun v => ?_) (fun _ _ hs => hs) (fun _ _ hs => hs)
    (fun i s t hc hs v => ?_) h hs
  · rw [State.reset_voice]
    exact reset
  · obtain e | ⟨_, _, -, -, e⟩ | ⟨_, -, e⟩ | ⟨_, -, e⟩ | ⟨-, e⟩ := hc.voice_cases v <;> rw [e]
    · exact hs v
    · exact trigger _ _ _ _ (hs v)
    · exact release _ _ (hs v)
    · exact pedal _ _ (hs v)
    · exact tick _ _ _ (hs v)

/-! ### The envelope invariant -/

/-- The default shapes keep silence: an accumulator of 0 is shaped to 0 (rules R179, R183). -/
theorem params_decayShape_zero : params.decayShape 0#20 params.eaSustain = 0#20 := by decide

theorem params_releaseShape_zero (rs rsx : BitVec 20) : params.releaseShape 0#20 rs rsx = 0#20 := by
  have hrom : (expRomDefault 0#8).toNat = 0 := by decide
  simp [params, releaseShapeOf, hrom]

/-- Steps 6 and 7 never raise the accumulator: a subtraction that wraps is caught by the guard (rule R182). -/
theorem egStep6and7_ea_le {o : OpRegs} (h : o.eao = o.ea) :
    (egStep6and7 params false o).ea.toNat ≤ o.ea.toNat := by
  unfold egStep6and7
  split
  · dsimp only
    split
    · exact Nat.zero_le _
    · rw [← congrArg BitVec.toNat h]
      omega
  · exact le_refl _

namespace OpRegs.EnvelopeOk

variable {gateOld : Bool} {o : OpRegs}

/-- Whether the invariant holds is read from five of the envelope fields alone. -/
theorem of_fields_eq {p : OpRegs} (h : o.EnvelopeOk gateOld) (hstage : p.stage = o.stage) (hea : p.ea = o.ea)
    (heax : p.eax = o.eax) (heao : p.eao = o.eao) (hrs : p.rs = o.rs) : p.EnvelopeOk gateOld := by
  obtain ⟨heq, hsilent, hidle, hbelow, hlinear⟩ := h
  constructor <;> simp only [hstage, hea, heax, heao, hrs] <;> assumption

/-- An operator at rest, as reset and NOTEON leave it. -/
theorem of_rest (hstage : o.stage = .idle) (hea : o.ea = 0#20) (heax : o.eax = 0#20) (heao : o.eao = 0#20) :
    o.EnvelopeOk gateOld := by
  constructor <;> simp [hstage, hea, heax, heao]

/-- Step 1, taken or not, with the gate high. -/
theorem after_egStart (h : o.EnvelopeOk gateOld) :
    (egStepLast (egStart params gateOld true o)).EnvelopeOk true := by
  unfold egStart
  split
  · exact { eao_eq := rfl, silent := fun _ => rfl, idle_of_low := nofun, below_snapshot := nofun,
            linear_attack := fun _ => rfl }
  · exact { eao_eq := rfl, silent := h.silent, idle_of_low := nofun, below_snapshot := h.below_snapshot,
            linear_attack := h.linear_attack }

/-- Step 2 in the attack stage: the shaped value follows the accumulator. -/
theorem after_egStep2 (h : (egStepLast o).EnvelopeOk true) (hs : o.stage = .attack) :
    (egStepLast (egStep2 true o)).EnvelopeOk true := by
  have heax : (egStep2 true o).eax = (egStep2 true o).ea := by
    unfold egStep2
    split
    · rfl
    · exact h.linear_attack hs
  exact { eao_eq := rfl, silent := heax.trans, idle_of_low := nofun, below_snapshot := by simp [hs],
          linear_attack := fun _ => heax }

/-- Step 3 may leave the attack stage, and changes nothing else. -/
theorem after_egStep3 (h : (egStepLast o).EnvelopeOk true) : (egStepLast (egStep3 true o)).EnvelopeOk true := by
  unfold egStep3
  split
  · exact { eao_eq := rfl, silent := h.silent, idle_of_low := nofun, below_snapshot := nofun,
            linear_attack := nofun }
  · exact h

/-- Step 4 in the decay stage: an accumulator that reaches 0 is shaped to 0. -/
theorem after_egStep4 (h : (egStepLast o).EnvelopeOk true) (hs : o.stage = .decay) :
    (egStepLast (egStep4 params true o)).EnvelopeOk true := by
  have hsilent : (egStep4 params true o).ea = 0#20 → (egStep4 params true o).eax = 0#20 := by
    unfold egStep4
    split
    · dsimp only
      intro hz
      rw [hz, params_decayShape_zero]
    · exact h.silent
  exact { eao_eq := rfl, silent := hsilent, idle_of_low := nofun, below_snapshot := by simp [hs],
          linear_attack := by simp [hs] }

/-- One evaluation with the gate high: the stage as step 1 leaves it says which of steps 2 to 4 run. -/
theorem after_egStep_high (h : o.EnvelopeOk gateOld) : (egStep params gateOld true o).EnvelopeOk true := by
  have h1 := h.after_egStart
  rw [egStep_high]
  unfold egGated
  generalize egStart params gateOld true o = o1 at h1 ⊢
  cases hs : o1.stage with
  | idle => simpa [hs, params] using h1
  | attack => simpa [hs, params] using (h1.after_egStep2 hs).after_egStep3
  | decay => simpa [hs] using h1.after_egStep4 hs

/-- Step 5: the snapshot is the accumulator. -/
theorem after_egStep5 (h : o.EnvelopeOk true) : (egStep5 o).EnvelopeOk false :=
  { eao_eq := h.eao_eq, silent := h.silent, idle_of_low := fun _ => rfl, below_snapshot := fun _ => le_refl _,
    linear_attack := nofun }

/-- Steps 6 and 7 after the falling edge: the accumulator stays below its snapshot, and one that reaches 0 is shaped
to 0. -/
theorem after_egStep6and7 (h : o.EnvelopeOk false) :
    (egStepLast (egStep6and7 params false o)).EnvelopeOk false := by
  have hidle := h.idle_of_low rfl
  have hsilent : (egStep6and7 params false o).ea = 0#20 → (egStep6and7 params false o).eax = 0#20 := by
    unfold egStep6and7
    split
    · dsimp only
      intro hz
      rw [hz, params_releaseShape_zero]
    · exact h.silent
  have hbelow : (egStep6and7 params false o).ea.toNat ≤ o.rs.toNat :=
    (egStep6and7_ea_le h.eao_eq).trans (h.below_snapshot hidle)
  exact { eao_eq := rfl, silent := hsilent, idle_of_low := by simp [hidle],
          below_snapshot := by simpa using fun _ => hbelow, linear_attack := by simp [hidle] }

/-- One evaluation keeps the invariant; the gate it used is `GATEOLD` of the next. -/
theorem after_egStep (h : o.EnvelopeOk gateOld) (gate : Bool) :
    (egStep params gateOld gate o).EnvelopeOk gate := by
  cases gate with
  | true => exact h.after_egStep_high
  | false =>
    rw [egStep_low]
    cases gateOld with
    | true => exact h.after_egStep5.after_egStep6and7
    | false => exact h.after_egStep6and7

end OpRegs.EnvelopeOk

/-- The four envelopes of a voice are as `OpRegs.EnvelopeOk` says. -/
def Voice.EnvelopesOk (v : Voice) : Prop := ∀ i, (v.op.get i).EnvelopeOk v.gateOld

theorem State.envelopesOk_iff (s : State) : s.EnvelopesOk ↔ ∀ v, (s.voice v).EnvelopesOk := Iff.rfl

theorem Voice.reset_envelopesOk : Voice.reset.EnvelopesOk := fun i => by
  cases i <;> exact .of_rest rfl rfl rfl rfl

theorem Voice.EnvelopesOk.triggerVoice (k : Quad KeyParams) (note vel : BitVec 7) (v : Voice) :
    (triggerVoice k note vel v).EnvelopesOk := fun i => by
  apply OpRegs.EnvelopeOk.of_rest <;> simp

theorem Voice.EnvelopesOk.releaseFlags {v : Voice} (h : v.EnvelopesOk) (note : BitVec 7) :
    (releaseFlags note v).EnvelopesOk := fun i => by
  simpa using h i

theorem Voice.EnvelopesOk.voiceTick {v : Voice} (h : v.EnvelopesOk) (m n : Mode) :
    (voiceTick params m n v).EnvelopesOk := fun i => by
  rw [voiceTick_gateOld, voiceTick_op]
  exact ((h i).after_egStep v.gate).of_fields_eq rfl rfl rfl rfl rfl

/-! ### The other invariants -/

theorem raiseFault_faultRecorded (c : Cause) (s : State) : (raiseFault c s).FaultRecorded := by
  cases c <;> simp [State.FaultRecorded, causeCode]

theorem Completes.faultRecorded {s t : State} {i : Instr} (h : Completes s i t) (hs : s.FaultRecorded) :
    t.FaultRecorded := by
  obtain ⟨hfault, hcause⟩ := h.fault_cause
  rwa [State.FaultRecorded, hfault, hcause]

theorem State.reset_faultRecorded : State.reset.FaultRecorded := by
  simp [State.FaultRecorded, State.reset, State.resetWith]

theorem State.reset_pedalUniform : State.reset.PedalUniform := fun v w => by simp

theorem Completes.pedalUniform {s t : State} {i : Instr} (h : Completes s i t) (hs : s.PedalUniform) :
    t.PedalUniform := fun v w => by
  obtain ⟨down, e⟩ | e := h.sustaining_cases
  · rw [e v, e w]
  · rw [e v, e w, hs v w]

theorem State.reset_patchSelected : State.reset.PatchSelected := nofun

theorem Completes.patchSelected {s t : State} {i : Instr} (h : Completes s i t) (hs : s.PatchSelected) :
    t.PatchSelected := by
  obtain e | ⟨idx, supported, e⟩ := h.patchSel_cases <;> rw [State.PatchSelected, e]
  · exact hs
  · exact fun _ => supported

/-- The four visible phases of a voice are the tops of their accumulators. -/
def Voice.PhasesOk (v : Voice) : Prop := ∀ i, (v.op.get i).pae = (v.op.get i).pa.extractLsb' 18 10

theorem State.phasesOk_iff (s : State) : s.PhasesOk ↔ ∀ v, (s.voice v).PhasesOk := Iff.rfl

theorem Voice.reset_phasesOk : Voice.reset.PhasesOk := fun i => by cases i <;> rfl

theorem Voice.PhasesOk.triggerVoice (k : Quad KeyParams) (note vel : BitVec 7) (v : Voice) :
    (triggerVoice k note vel v).PhasesOk := fun i => by simp

theorem Voice.PhasesOk.releaseFlags {v : Voice} (h : v.PhasesOk) (note : BitVec 7) :
    (releaseFlags note v).PhasesOk := fun i => by
  simpa using h i

theorem Voice.PhasesOk.voiceTick (m n : Mode) (v : Voice) : (voiceTick params m n v).PhasesOk := fun i => by
  simp

/-! ### The reset state -/

theorem State.reset_memoryWf : State.reset.MemoryWf := fun k => by cases k <;> rfl

theorem State.reset_envelopesOk : State.reset.EnvelopesOk := State.reset.envelopesOk_iff.2 fun v => by
  rw [State.reset_voice]
  exact Voice.reset_envelopesOk

theorem State.reset_phasesOk : State.reset.PhasesOk := State.reset.phasesOk_iff.2 fun v => by
  rw [State.reset_voice]
  exact Voice.reset_phasesOk

theorem State.reset_read (k : Line) (a : Nat) : Memory.read (State.reset.dl.line k) a = 0#18 := by
  cases k <;> exact Memory.read_nil a

theorem State.reset_rangesOk : State.reset.RangesOk where
  history v := by
    rw [State.reset_voice]
    decide
  mix := by decide
  lines k a := by
    rw [State.reset_read]
    decide
  outl := by decide
  outr := by decide

/-! ### The status word -/

theorem statusWord_bit0 (st : Status) : (statusWord st).getLsbD 0 = st.ready := by
  obtain ⟨ready, fault⟩ := st
  revert ready fault
  decide

theorem statusWord_bit1 (st : Status) : (statusWord st).getLsbD 1 = st.fault := by
  obtain ⟨ready, fault⟩ := st
  revert ready fault
  decide

/-! ### A decayed voice -/

/-- A fully decayed envelope with the gate low stays decayed. -/
theorem egStep_low_of_zero {o : OpRegs} (hea : o.ea = 0#20) :
    egStep params false false o = egStepLast o := by
  simp [egStep_low, egStep6and7, hea]

/-- A shaped value of 0 attenuates fully (rule R203). -/
theorem ampStep_amp_of_zero (eg : BitVec 12) (vel : BitVec 7) {o : OpRegs} (heax : o.eax = 0#20) :
    (ampStep eg vel o).amp = 4095#12 := by
  have hinv : (invLevel 0#20).toNat = 4095 := by decide
  rw [ampStep_amp, heax, hinv, min_eq_right (by omega)]

/-- A carrier at full attenuation contributes 0 (rule R205). -/
theorem carrierOut_silent {v : Voice} {st : StackId} (h : v.amp (carrierOf st) = 4095#12) (m : Int) :
    carrierOut params v st m = 0 := by
  simp [carrierOut, opEval, opEvalGated, h, params]

end Sys2Proof.Machine

/-! ### The statements -/

open Sys2Proof Sys2Proof.Machine

/-- Settles O58: each update of a voice keeps its four envelopes well, TICK by the argument over the sub-steps of
`EGStep`. -/
theorem stepKeepsEnvelopes : Obligations.StepKeepsEnvelopes := by
  intro s t h
  rw [State.envelopesOk_iff, State.envelopesOk_iff]
  exact step_keeps_voices Voice.reset_envelopesOk
    (fun k note vel v _ => Voice.EnvelopesOk.triggerVoice k note vel v) (fun note _ hv => hv.releaseFlags note)
    (fun _ _ hv => hv) (fun m n _ hv => hv.voiceTick m n) h

/-- Settles O60, one invariant at a time. -/
theorem stepKeepsRegistersConsistent : Obligations.StepKeepsRegistersConsistent := by
  intro s t h
  refine ⟨?_, ?_, ?_, ?_⟩
  · exact step_keeps State.reset_faultRecorded (fun _ _ hs => hs) (fun c s _ => raiseFault_faultRecorded c s)
      (fun _ _ _ hc => hc.faultRecorded) h
  · exact step_keeps State.reset_pedalUniform (fun _ _ hs => hs) (fun _ _ hs => hs)
      (fun _ _ _ hc => hc.pedalUniform) h
  · exact step_keeps State.reset_patchSelected (fun _ _ hs => hs) (fun _ _ hs => hs)
      (fun _ _ _ hc => hc.patchSelected) h
  · rw [State.phasesOk_iff, State.phasesOk_iff]
    exact step_keeps_voices Voice.reset_phasesOk
      (fun k note vel v _ => Voice.PhasesOk.triggerVoice k note vel v) (fun note _ hv => hv.releaseFlags note)
      (fun _ _ hv => hv) (fun m n v _ => Voice.PhasesOk.voiceTick m n v) h

/-- Settles O41: the envelopes stay at zero with the gate low, so every operator is fully attenuated and both carriers
are cut off. -/
theorem decayedVoiceStaysSilent : Obligations.DecayedVoiceStaysSilent := by
  intro mode1 mode2 v hnew hgate hold hzero
  have hamp : ∀ i, ((prepared params v).op.get i).amp = 4095#12 := fun i => by
    obtain ⟨hea, heax⟩ := hzero i
    rw [prepared_op, hgate, hold, egStep_low_of_zero hea]
    exact ampStep_amp_of_zero _ _ heax
  refine ⟨?_, ?_, ?_, ?_, fun i => ?_⟩
  · simp only [voiceSample, networkSample]
    rw [carrierOut_silent (hamp _), carrierOut_silent (hamp _), add_zero]
  · rw [voiceTick_gateNew, hnew]
  · rw [voiceTick_gate, hnew]
  · rw [voiceTick_gateOld, hgate]
  · obtain ⟨hea, heax⟩ := hzero i
    rw [voiceTick_op, hgate, hold, egStep_low_of_zero hea]
    exact ⟨hea, heax, ampStep_amp_of_zero _ _ heax⟩

/-- Settles O52: of the cases of a command's next state, a completed NOTEON alone moves `RRIDX` and a completed CHORUS
alone `WP` and `CHTICK`. -/
theorem countersAdvanceOnTheirOwnCommands : Obligations.CountersAdvanceOnTheirOwnCommands := by
  intro i s t h
  obtain rfl | ⟨c, rfl⟩ | hc := exec_next_cases h
  · simp
  · simp
  · refine ⟨fun hne => ?_, fun hne => ?_⟩
    · obtain e | ⟨hi, e⟩ := hc.rridx_cases
      · exact absurd e hne
      · exact ⟨hi, by simp [e]⟩
    · obtain ⟨hwp, hch⟩ | ⟨hi, hwp, hch⟩ := hc.chorusCounters_cases
      · simp [hwp, hch] at hne
      · exact ⟨hi, by rw [hwp, BitVec.toNat_ofNat]; omega, by simp [hch]⟩

/-- Settles O54: of the updates of a voice, `triggerVoice` clears the applied gates, `voiceTick` latches them and the
others leave them alone. -/
theorem appliedGatesMoveOnlyOnTick : Obligations.AppliedGatesMoveOnlyOnTick := by
  intro i s t v h
  refine ⟨fun hi => ?_, ?_, ?_⟩
  · obtain rfl | ⟨c, rfl⟩ | hc := exec_next_cases h
    · exact .inl ⟨rfl, rfl⟩
    · exact .inl ⟨rfl, rfl⟩
    · obtain e | ⟨n, l, hn, hv, e⟩ | ⟨_, -, e⟩ | ⟨_, -, e⟩ | ⟨ht, -⟩ := hc.voice_cases v
      · exact .inl (by simp [e])
      · exact .inr ⟨⟨n, l, hn⟩, hv, by simp [e]⟩
      · exact .inl (by simp [e])
      · exact .inl (by simp [e])
      · exact absurd ht hi
  · rintro note vel rfl ⟨hf, hr⟩ hsel hlo hhi rfl
    have hnote : noteSupported params note = true := by simp [noteSupported, hlo, hhi]
    rw [exec_running hf hr] at h
    obtain ⟨hno, -⟩ | ⟨-, hno, -⟩ | ⟨-, -, he⟩ := noteon_cases params note vel s
    · simp [hsel] at hno
    · simp [hnote] at hno
    · obtain rfl := Host.Outcome.next.inj h
      simp [effect, he]
  · rintro rfl ⟨hf, hr⟩
    rw [exec_running hf hr] at h
    obtain rfl := Host.Outcome.next.inj h
    simp [effect]

/-- Settles O8: the reset state is written out, and every element of its delay lines is unlisted. -/
theorem resetGivesStatedValues : Obligations.ResetGivesStatedValues :=
  ⟨State.reset_voice, rfl, rfl, rfl, rfl, rfl, rfl, rfl, rfl, rfl, State.reset_read, rfl, rfl⟩

/-- Settles O14: the four registers are read as they are, and `STATUS` bit by bit. -/
theorem hostPortShows : Obligations.HostPortShows := fun s =>
  ⟨⟨statusWord_bit0 s.status, statusWord_bit1 s.status⟩, rfl, rfl, rfl, rfl⟩

/-- Settles O56, one invariant at a time. -/
theorem invariantsHoldAtReset : Obligations.InvariantsHoldAtReset :=
  ⟨State.reset_memoryWf, ⟨rfl, rfl⟩, State.reset_faultRecorded, State.reset_pedalUniform, State.reset_patchSelected,
    State.reset_envelopesOk, State.reset_phasesOk, State.reset_rangesOk⟩
end

section
/-! PROOFS. The statements about the memories (20_memory.md): the canonical form of a delay line, and the commands that
read the configuration registers. -/

namespace Sys2Proof.Machine

/-! ### The canonical form of a delay line -/

/-- The first listed element of a canonical memory does not read as an unlisted one. -/
theorem Memory.read_head_ne {lo j : Nat} {y : Sample} {m : Memory} (hm : Memory.wfAbove lo ((j, y) :: m) = true) :
    Memory.read ((j, y) :: m) j ≠ Memory.unlisted := by
  obtain ⟨-, -, hy, -⟩ := (Memory.wfAbove_cons lo j y m).1 hm
  rwa [Memory.read_cons, if_pos rfl]

/-- The first listed index of a canonical memory bounds it from below. -/
theorem Memory.wfAbove_head {lo j : Nat} {y : Sample} {m : Memory} (hm : Memory.wfAbove lo ((j, y) :: m) = true) :
    Memory.wfAbove j ((j, y) :: m) = true := by
  rw [Memory.wfAbove_cons] at hm ⊢
  exact ⟨le_refl j, hm.2⟩

/-- An index that does not read as an unlisted one is not below the bound of a canonical memory. -/
theorem Memory.le_of_read_ne {lo i : Nat} {m : Memory} (hm : Memory.wfAbove lo m = true)
    (hi : Memory.read m i ≠ Memory.unlisted) : lo ≤ i :=
  not_lt.1 fun h => hi (Memory.read_below h hm)

/-- Of two canonical memories with equal contents, the one's first index is at most the other's. -/
theorem Memory.head_le_head {lo lo' j k : Nat} {y z : Sample} {m n : Memory}
    (hm : Memory.wfAbove lo ((j, y) :: m) = true) (hn : Memory.wfAbove lo' ((k, z) :: n) = true)
    (h : ∀ a, Memory.read ((j, y) :: m) a = Memory.read ((k, z) :: n) a) : j ≤ k :=
  Memory.le_of_read_ne (Memory.wfAbove_head hm) (h k ▸ Memory.read_head_ne hn)

/-- Equal contents behind equal first indices: both tails read as unlisted at the index of their heads. -/
theorem Memory.read_tail_eq {j : Nat} {y z : Sample} {m n : Memory} (hm : Memory.wfAbove (j + 1) m = true)
    (hn : Memory.wfAbove (j + 1) n = true) (h : ∀ a, Memory.read ((j, y) :: m) a = Memory.read ((j, z) :: n) a)
    (a : Nat) : Memory.read m a = Memory.read n a := by
  by_cases ha : a = j
  · rw [ha, Memory.read_below j.lt_succ_self hm, Memory.read_below j.lt_succ_self hn]
  · simpa [Memory.read_cons, ha] using h a

/-- Canonical memories with equal contents are equal, above any bounds. -/
theorem Memory.eq_of_read_eq {lo lo' : Nat} {m n : Memory} (hm : Memory.wfAbove lo m = true)
    (hn : Memory.wfAbove lo' n = true) (h : ∀ a, Memory.read m a = Memory.read n a) : m = n := by
  induction m generalizing lo lo' n with
  | nil =>
    cases n with
    | nil => rfl
    | cons c n => exact absurd (h c.1).symm (Memory.read_head_ne hn)
  | cons b m ih =>
    cases n with
    | nil => exact absurd (h b.1) (Memory.read_head_ne hm)
    | cons c n =>
      obtain ⟨j, y⟩ := b
      obtain ⟨k, z⟩ := c
      obtain rfl : j = k :=
        le_antisymm (Memory.head_le_head hm hn h) (Memory.head_le_head hn hm fun a => (h a).symm)
      obtain ⟨-, -, -, hm'⟩ := (Memory.wfAbove_cons lo j y m).1 hm
      obtain ⟨-, -, -, hn'⟩ := (Memory.wfAbove_cons lo' j z n).1 hn
      have hyz : y = z := by simpa [Memory.read_cons] using h j
      rw [hyz, ih hm' hn' (Memory.read_tail_eq hm' hn' h)]

/-! ### The registers a command does not read -/

/-- The state with `PATCHSEL` rewritten. -/
def State.withPatchSel (p : PatchSel) (s : State) : State := { s with patchSel := p }

/-- The state with the two modes rewritten. -/
def State.withModes (m1 m2 : Mode) (s : State) : State := { s with mode1 := m1, mode2 := m2 }

/-- A rewrite of registers that the checks before a command and a fault entry do not read, and that the command's
effect does not read either, is not read by the command. -/
theorem exec_rewritten {f : State → State} (hstatus : ∀ s, (f s).status = s.status)
    (hfault : ∀ c s, raiseFault c (f s) = f (raiseFault c s)) {i : Instr} {s t : State}
    (heffect : effect i (f s) = f (effect i s)) (h : exec i s = .next t) : exec i (f s) = .next (f t) := by
  rw [exec_eq] at h ⊢
  obtain rfl := Host.Outcome.next.inj h
  rw [hstatus, hfault, heffect, apply_ite f, apply_ite f]

/-- No command but NOTEON and SELPATCH reads or writes `PATCHSEL`. -/
theorem effect_withPatchSel (p : PatchSel) (s : State) {i : Instr} (hon : ∀ n l, i ≠ .noteon n l)
    (hsel : ∀ idx, i ≠ .selpatch idx) : effect i (s.withPatchSel p) = (effect i s).withPatchSel p := by
  cases i with
  | selpatch idx => exact absurd rfl (hsel idx)
  | noteon note vel => exact absurd rfl (hon note vel)
  | noteoff note =>
    simp only [effect, noteoff, apply_ite (State.withPatchSel p)]
    rfl
  | setmode st m => cases st <;> rfl
  | init | sustain down | tick | chorus => rfl

/-- No command but TICK and SETMODE reads or writes a mode. -/
theorem effect_withModes (m1 m2 : Mode) (s : State) {i : Instr} (htick : i ≠ .tick)
    (hset : ∀ st m, i ≠ .setmode st m) : effect i (s.withModes m1 m2) = (effect i s).withModes m1 m2 := by
  cases i with
  | selpatch idx =>
    simp only [effect, selpatch, apply_ite (State.withModes m1 m2)]
    rfl
  | noteon note vel =>
    simp only [effect, noteon, apply_ite (State.withModes m1 m2)]
    rfl
  | noteoff note =>
    simp only [effect, noteoff, apply_ite (State.withModes m1 m2)]
    rfl
  | tick => exact absurd rfl htick
  | setmode st m => exact absurd rfl (hset st m)
  | init | sustain down | chorus => rfl

end Sys2Proof.Machine

/-! ### The statements -/

open Sys2Proof Sys2Proof.Machine

/-- Settles O47: the two lists have the same first index, the least that does not read as unlisted, hence the same
element there, and their tails have equal contents again. -/
theorem canonicalLinesAreUnique : Obligations.CanonicalLinesAreUnique :=
  fun _ _ hm hn h => Memory.eq_of_read_eq hm hn h

/-- Settles O55: the checks and the fault entry read neither `PATCHSEL` nor a mode, and the effect of a command reads
them only in the commands left out. -/
theorem configurationIsReadInOnePlace : Obligations.ConfigurationIsReadInOnePlace :=
  ⟨fun _ s _ p hon hsel h =>
      exec_rewritten (f := State.withPatchSel p) (fun _ => rfl) (fun _ _ => rfl) (effect_withPatchSel p s hon hsel) h,
    fun _ s _ m1 m2 htick hset h =>
      exec_rewritten (f := State.withModes m1 m2) (fun _ => rfl) (fun _ _ => rfl)
        (effect_withModes m1 m2 s htick hset) h⟩
end

section
/-! PROOFS. The statements about the encoding (30_encoding.md): the row a word matches and the operands it then gives,
the bits and the value of an encoded word, and the assembler's lines; then the statements. -/

namespace Sys2Proof

/-! ### Rows and the decoder -/

/-- Two patterns that ask for different values on the bits both masks keep match no common word. -/
theorem and_ne_of_and_eq {w m v m' v' : Word} (h : w &&& m = v) (hne : v &&& m' ≠ v' &&& m) : w &&& m' ≠ v' := by
  rintro rfl
  exact hne (by rw [← h, BitVec.and_assoc, BitVec.and_comm m, ← BitVec.and_assoc])

/-- The command in the row of `i`, with the operands that rule R112 reads from the word. -/
def Instr.withOperands (w : Word) : Instr → Instr
  | .init => .init
  | .selpatch _ => .selpatch (bField w)
  | .noteon _ _ => .noteon (noteField w) (velField w)
  | .noteoff _ => .noteoff (noteField w)
  | .sustain _ => .sustain (w.getLsbD 0)
  | .tick => .tick
  | .chorus => .chorus
  | .setmode _ _ => .setmode (stackOfBit (w.extractLsb' 8 1)) (modeOfBits (w.extractLsb' 0 2))

@[simp] theorem rowOf_withOperands (w : Word) (i : Instr) : rowOf (i.withOperands w) = rowOf i := by
  cases i <;> rfl

@[simp] theorem withOperands_idem (w : Word) (i : Instr) :
    (i.withOperands w).withOperands w = i.withOperands w := by
  cases i <;> rfl

/-- The eight rows are the rows of the commands. -/
theorem forall_opcodeRows_iff {p : OpcodeRow → Prop} : (∀ r ∈ opcodeRows, p r) ↔ ∀ i, p (rowOf i) := by
  constructor
  · intro h i
    exact h _ (by cases i <;> simp [opcodeRows, rowOf])
  · intro h
    simp [opcodeRows, h]

/-- The rows are disjoint, so the decoder passes over the rows that stand before the one the word matches. -/
theorem decode_of_rowMatch {w : Word} {i : Instr} (h : w &&& (rowOf i).mask = (rowOf i).value) :
    decode w = .ok (i.withOperands w) := by
  have hne (m v : Word) : (rowOf i).value &&& m ≠ v &&& (rowOf i).mask → w &&& m ≠ v := and_ne_of_and_eq h
  cases i <;> simp only [rowOf] at h hne <;> simp (disch := decide) [decode, h, hne, Instr.withOperands]

theorem decode_of_noRow {w : Word} (h : ∀ r ∈ opcodeRows, w &&& r.mask ≠ r.value) :
    decode w = .error (rejectReason w) := by
  simp only [opcodeRows, List.forall_mem_cons, rowOf, ne_eq] at h
  simp only [decode, h, if_false]

/-- Rule R113: a word is the command when it matches the command's row and the command's operands are the word's. -/
theorem decode_eq_ok_iff {w : Word} {i : Instr} :
    decode w = .ok i ↔ w &&& (rowOf i).mask = (rowOf i).value ∧ i.withOperands w = i := by
  constructor
  · intro h
    by_cases hrow : ∃ j, w &&& (rowOf j).mask = (rowOf j).value
    · obtain ⟨j, hj⟩ := hrow
      rw [decode_of_rowMatch hj] at h
      obtain rfl := Except.ok.inj h
      exact ⟨by rwa [rowOf_withOperands], withOperands_idem w j⟩
    · rw [decode_of_noRow (forall_opcodeRows_iff.2 (not_exists.1 hrow))] at h
      nomatch h
  · rintro ⟨hrow, hi⟩
    rw [decode_of_rowMatch hrow, hi]

/-! ### The operands of a word, as numbers -/

@[simp] theorem stackBit_stackOfBit (b : BitVec 1) : stackBit (stackOfBit b) = b := by revert b; decide

@[simp] theorem modeBits_modeOfBits (b : BitVec 2) : modeBits (modeOfBits b) = b := by revert b; decide

theorem stackOfBit_eq_iff {b : BitVec 1} {st : StackId} : stackOfBit b = st ↔ stackBit st = b := by
  revert b; cases st <;> decide

theorem modeOfBits_eq_iff {b : BitVec 2} {m : Mode} : modeOfBits b = m ↔ modeBits m = b := by
  revert b; cases m <;> decide

section
variable (w : Word)

@[simp] theorem withOperands_init : Instr.init.withOperands w = .init := rfl
@[simp] theorem withOperands_tick : Instr.tick.withOperands w = .tick := rfl
@[simp] theorem withOperands_chorus : Instr.chorus.withOperands w = .chorus := rfl

@[simp] theorem withOperands_selpatch_eq_iff (idx : BitVec 8) :
    (Instr.selpatch idx).withOperands w = .selpatch idx ↔ idx.toNat = w.toNat % 256 := by
  simp [Instr.withOperands, bField, ← BitVec.toNat_inj, eq_comm]

@[simp] theorem withOperands_noteon_eq_iff (note vel : BitVec 7) :
    (Instr.noteon note vel).withOperands w = .noteon note vel ↔
      note.toNat = w.toNat / 256 % 128 ∧ vel.toNat = w.toNat % 128 := by
  simp [Instr.withOperands, noteField, velField, ← BitVec.toNat_inj, Nat.shiftRight_eq_div_pow, eq_comm]

@[simp] theorem withOperands_noteoff_eq_iff (note : BitVec 7) :
    (Instr.noteoff note).withOperands w = .noteoff note ↔ note.toNat = w.toNat / 256 % 128 := by
  simp [Instr.withOperands, noteField, ← BitVec.toNat_inj, Nat.shiftRight_eq_div_pow, eq_comm]

@[simp] theorem withOperands_sustain_eq_iff (down : Bool) :
    (Instr.sustain down).withOperands w = .sustain down ↔ down.toNat = w.toNat % 2 := by
  rcases Nat.mod_two_eq_zero_or_one w.toNat with h | h <;> cases down <;>
    simp [Instr.withOperands, BitVec.getElem_eq_testBit_toNat, h]

@[simp] theorem withOperands_setmode_eq_iff (stack : StackId) (mode : Mode) :
    (Instr.setmode stack mode).withOperands w = .setmode stack mode ↔
      (stackBit stack).toNat = w.toNat / 256 % 2 ∧ (modeBits mode).toNat = w.toNat % 4 := by
  simp [Instr.withOperands, stackOfBit_eq_iff, modeOfBits_eq_iff, ← BitVec.toNat_inj, Nat.shiftRight_eq_div_pow]

end

/-! ### The word of a command -/

theorem toNat_append_eq_add {m n : Nat} (x : BitVec m) (y : BitVec n) :
    (x ++ y).toNat = x.toNat * 2 ^ n + y.toNat := by
  rw [BitVec.toNat_append, ← Nat.shiftLeft_add_eq_or_of_lt y.isLt, Nat.shiftLeft_eq]

/-- The word of a command as a number: `OPC` counts 2^28, `A` 2^8 and `B` 1 (rule R111). -/
def Instr.wordValue : Instr → Nat
  | .init => 0x10000000
  | .selpatch idx => 0x20000000 + idx.toNat
  | .noteon note vel => 0x30000000 + note.toNat * 2 ^ 8 + vel.toNat
  | .noteoff note => 0x40000000 + note.toNat * 2 ^ 8
  | .sustain down => 0x50000000 + down.toNat
  | .tick => 0x60000000
  | .chorus => 0x70000000
  | .setmode stack mode => 0x80000000 + (stackBit stack).toNat * 2 ^ 8 + (modeBits mode).toNat

@[simp] theorem encode_toNat (i : Instr) : (encode i).toNat = i.wordValue := by
  cases i <;>
    simp only [encode, Instr.wordValue, toNat_append_eq_add, BitVec.toNat_ofNat, BitVec.toNat_ofBool] <;> omega

theorem encode_eq_ofNat (i : Instr) : encode i = BitVec.ofNat 32 i.wordValue := by
  rw [← encode_toNat, BitVec.ofNat_toNat, BitVec.setWidth_eq]

/-- The word of a command matches the command's row. -/
theorem encode_rowMatch (i : Instr) : encode i &&& (rowOf i).mask = (rowOf i).value :=
  match i with
  | .init => Laws.RowMatch.init
  | .selpatch idx => Laws.RowMatch.selpatch idx
  | .noteon note vel => Laws.RowMatch.noteon note vel
  | .noteoff note => Laws.RowMatch.noteoff note
  | .sustain down => Laws.RowMatch.sustain down
  | .tick => Laws.RowMatch.tick
  | .chorus => Laws.RowMatch.chorus
  | .setmode stack mode => Laws.RowMatch.setmode stack mode

/-- The operands of a command are read back from its word. -/
theorem withOperands_encode (i : Instr) : i.withOperands (encode i) = i := by
  cases i with
  | init | tick | chorus => rfl
  | sustain down => cases down <;> decide
  | selpatch | noteon | noteoff | setmode =>
    simp only [withOperands_selpatch_eq_iff, withOperands_noteon_eq_iff, withOperands_noteoff_eq_iff,
      withOperands_setmode_eq_iff, encode_toNat, Instr.wordValue]
    omega

/-- Encoding the operands of any word gives the row's own bits and, outside the mask, the word's. -/
theorem encode_withOperands (w : Word) (i : Instr) :
    encode (i.withOperands w) = (rowOf i).value ||| w &&& ~~~(rowOf i).mask := by
  refine BitVec.eq_of_getLsbD_eq fun k hk => ?_
  cases i <;>
    simp only [Instr.withOperands, encode, rowOf, stackBit_stackOfBit, modeBits_modeOfBits, BitVec.getLsbD_append,
      BitVec.getLsbD_or, BitVec.getLsbD_and]
  all_goals interval_cases k <;> simp [bField, noteField, velField]

theorem encode_of_decode {w : Word} {i : Instr} (h : decode w = .ok i) : encode i = w := by
  obtain ⟨hrow, hi⟩ := decode_eq_ok_iff.1 h
  calc encode i = (rowOf i).value ||| w &&& ~~~(rowOf i).mask := by rw [← encode_withOperands, hi]
    _ = w &&& ((rowOf i).mask ||| ~~~(rowOf i).mask) := by rw [← hrow, ← BitVec.and_or_distrib_left]
    _ = w := by rw [BitVec.or_not_self, BitVec.and_allOnes]

/-- The words that match a row are the words of the commands. -/
theorem exists_encode_eq_of_rowMatch {w : Word} {i : Instr} (h : w &&& (rowOf i).mask = (rowOf i).value) :
    ∃ j, encode j = w :=
  ⟨_, encode_of_decode (decode_of_rowMatch h)⟩

/-! ### The assembler's lines -/

/-- A line that stands for commands under a condition has their words under the same condition. -/
theorem assemble_of_expand {l : AsmLine} {c : Prop} [Decidable c] {is : List Instr} {ws : List Word}
    (hexpand : l.expand = if c then some is else none) (hwords : c → is.map encode = ws) :
    l.assemble = if c then some ws else none := by
  rw [AsmLine.assemble, hexpand]
  split
  · next h => rw [Option.map_some, hwords h]
  · rfl

/-- Fields that do not overlap are joined by OR as by addition. -/
theorem or_eq_add {a b : Nat} (k : Nat) (ha : a % 2 ^ k = 0) (hb : b < 2 ^ k) : a ||| b = a + b := by
  obtain ⟨q, rfl⟩ := Nat.dvd_of_mod_eq_zero ha
  exact (Nat.two_pow_add_eq_or_of_lt hb q).symm

theorem assemble_selpatch (idx : Nat) : AsmLine.assemble (.selpatch idx) =
    if idx < 256 then some [BitVec.ofNat 32 (0x20000000 ||| idx)] else none := by
  refine assemble_of_expand (is := [.selpatch (BitVec.ofNat 8 idx)]) ?_ fun h => ?_
  · simp [AsmLine.expand, AsmLine.wellFormed, Nat.le_iff_lt_add_one]
  · rw [or_eq_add 8 (by norm_num) h]
    simp [encode_eq_ofNat, Instr.wordValue, Nat.mod_eq_of_lt h]

theorem assemble_noteon (note vel : Nat) : AsmLine.assemble (.noteon note vel) =
    if note < 128 ∧ vel < 128 then some [BitVec.ofNat 32 (0x30000000 ||| (note <<< 8) ||| vel)] else none := by
  refine assemble_of_expand (is := [.noteon (BitVec.ofNat 7 note) (BitVec.ofNat 7 vel)]) ?_ fun ⟨hnote, hvel⟩ => ?_
  · simp [AsmLine.expand, AsmLine.wellFormed, Nat.le_iff_lt_add_one]
  · rw [or_eq_add 15 (a := 0x30000000) (by norm_num) (by omega), or_eq_add 8 (by omega) (by omega)]
    simp [encode_eq_ofNat, Instr.wordValue, Nat.mod_eq_of_lt hnote, Nat.mod_eq_of_lt hvel, Nat.shiftLeft_eq]

theorem assemble_noteoff (note : Nat) : AsmLine.assemble (.noteoff note) =
    if note < 128 then some [BitVec.ofNat 32 (0x40000000 ||| (note <<< 8))] else none := by
  refine assemble_of_expand (is := [.noteoff (BitVec.ofNat 7 note)]) ?_ fun h => ?_
  · simp [AsmLine.expand, AsmLine.wellFormed, Nat.le_iff_lt_add_one]
  · rw [or_eq_add 15 (by norm_num) (by omega)]
    simp [encode_eq_ofNat, Instr.wordValue, Nat.mod_eq_of_lt h, Nat.shiftLeft_eq]

theorem assemble_sustain (down : Nat) : AsmLine.assemble (.sustain down) =
    if down < 2 then some [BitVec.ofNat 32 (0x50000000 ||| down)] else none := by
  refine assemble_of_expand (is := [.sustain (down == 1)]) ?_ fun h => ?_
  · simp only [AsmLine.expand, AsmLine.wellFormed, decide_eq_true_eq, Nat.le_iff_lt_add_one]
  · interval_cases down <;> decide

theorem stackOfNat_isSome_iff {n : Nat} : (stackOfNat n).isSome ↔ n = 1 ∨ n = 2 := by
  match n with
  | 0 | 1 | 2 => decide
  | n + 3 => simp [stackOfNat]

theorem modeOfNat_isSome_iff {n : Nat} : (modeOfNat n).isSome ↔ n < 4 := by
  match n with
  | 0 | 1 | 2 | 3 => decide
  | n + 4 => simp [modeOfNat]

theorem assemble_setmode (stack mode : Nat) : AsmLine.assemble (.setmode stack mode) =
    if (stack = 1 ∨ stack = 2) ∧ mode < 4 then
      some [BitVec.ofNat 32 (0x80000000 ||| ((stack - 1) <<< 8) ||| mode)] else none := by
  by_cases h : (stack = 1 ∨ stack = 2) ∧ mode < 4
  · obtain ⟨rfl | rfl, hmode⟩ := h <;> interval_cases mode <;> decide
  · rw [if_neg h]
    simp [AsmLine.assemble, AsmLine.expand, AsmLine.wellFormed, stackOfNat_isSome_iff, modeOfNat_isSome_iff, h]

theorem assemble_ticks (n : Nat) : AsmLine.assemble (.ticks n) = some (List.replicate n 0x60000000#32) := by
  simp [AsmLine.assemble, AsmLine.expand, AsmLine.wellFormed, encode_eq_ofNat, Instr.wordValue]

end Sys2Proof

namespace Sys2Proof.Machine

/-! ### A word that is no command -/

theorem illegalWord_eq (s : State) :
    illegalWord s = .next (if s.status.fault = true then s else raiseFault .illegal s) := by
  by_cases hf : s.status.fault = true <;> simp [illegalWord, unlessHalted, hf]

theorem illegalWord_of_noFault {s : State} (hf : s.status.fault = false) :
    illegalWord s = .next (raiseFault .illegal s) := by
  simp [illegalWord_eq, hf]

end Sys2Proof.Machine

/-! ### The statements -/

open Sys2Proof Sys2Proof.Machine

/-- Settles O2: the word of a command matches the command's row, and its operands are read back from it. -/
theorem decodeOfEncode : Obligations.DecodeOfEncode := fun i =>
  decode_eq_ok_iff.2 ⟨encode_rowMatch i, withOperands_encode i⟩

/-- Settles O1: for each command the row of the opcode map and the numbers its operands read. -/
theorem decodeFollowsOpcodeMap : Obligations.DecodeFollowsOpcodeMap := by
  refine ⟨fun w => ?_, rfl, rfl, rfl, rfl, rfl, rfl⟩
  simp only [decode_eq_ok_iff, rowOf, withOperands_init, withOperands_selpatch_eq_iff, withOperands_noteon_eq_iff,
    withOperands_noteoff_eq_iff, withOperands_sustain_eq_iff, withOperands_tick, withOperands_chorus,
    withOperands_setmode_eq_iff, and_true, implies_true]

/-- Settles O3: the bits of the mask are the row's, and the encoder puts the operands back in the others. -/
theorem encodeOfDecode : Obligations.EncodeOfDecode := fun _ _ => encode_of_decode

/-- Settles O5: a word that matches no row is rejected and raises `E_ILLEGAL`; a word that matches one is the word of
a command, whose value has none of the bits rule R114 names. -/
theorem illegalWordRaisesIllegal : Obligations.IllegalWordRaisesIllegal := by
  refine ⟨fun s w rest hp hf hrow => ?_, fun w hbits => forall_opcodeRows_iff.2 fun i hrow => ?_⟩
  · rw [step_word hp, decode_of_noRow hrow]
    exact illegalWord_of_noFault (s := s.setPort rest) hf
  · obtain ⟨j, rfl⟩ := exists_encode_eq_of_rowMatch hrow
    rw [encode_toNat] at hbits
    cases j with
    | sustain down => cases down <;> simp [Instr.wordValue] at hbits
    | _ => simp only [Instr.wordValue] at hbits; omega

/-- Settles O6, one line of the assembler at a time; the lines without operands are evaluated. -/
theorem assemblerWords : Obligations.AssemblerWords :=
  ⟨by decide, by decide, by decide, assemble_selpatch, assemble_noteon, assemble_noteoff, assemble_sustain,
    assemble_setmode, by decide, by decide, by decide, assemble_ticks⟩

/-- Settles O4: the decoder is evaluated on each word. -/
theorem sampleWordsDecode : Obligations.SampleWordsDecode := by
  unfold Obligations.SampleWordsDecode
  decide

/-- Settles O7 from the two equations of a step. -/
theorem stepRunsDecodedCommand : Obligations.StepRunsDecodedCommand :=
  ⟨fun s w rest i hp hd => by rw [step_word hp, hd]; rfl, fun _ => step_empty⟩

/-- Settles O13: every command has an equation for its next state, and so has a step on each kind of input. -/
theorem everyCommandAnswers : Obligations.EveryCommandAnswers := by
  refine ⟨fun i s => ⟨_, exec_eq i s⟩, fun s => ?_⟩
  rcases hp : s.port with _ | ⟨w | _, rest⟩
  · exact ⟨_, step_empty hp⟩
  · rw [step_word hp]
    rcases decode w with r | i
    · exact ⟨_, illegalWord_eq _⟩
    · exact ⟨_, exec_eq i _⟩
  · exact ⟨_, step_reset hp⟩
end

section
/-! PROOFS. The statements about the lookup tables and INIT (40_lookup_tables.md): `logSin` and `expOf` as arithmetic
on their arguments, for any parameters, the range of the default mantissa, and which commands fault; then the
statements. -/

namespace Sys2Proof.Machine

/-! ### Bits as arithmetic -/

theorem getLsbD_ofNat_iff {w k : Nat} (hk : k < w) (n : Nat) :
    (BitVec.ofNat w n).getLsbD k = true ↔ n / 2 ^ k % 2 = 1 := by
  rw [BitVec.getLsbD_ofNat, Nat.testBit_eq_decide_div_mod_eq, decide_eq_true hk, Bool.true_and, decide_eq_true_iff]

/-- Inverting the bits of a table index counts down from the last entry. -/
theorem byte_xor_ff (x : BitVec 8) : x ^^^ 0xFF#8 = BitVec.ofNat 8 (255 - x.toNat) := by
  apply BitVec.eq_of_toNat_eq
  rw [show 0xFF#8 = BitVec.allOnes 8 from rfl, BitVec.xor_allOnes, BitVec.toNat_not, BitVec.toNat_ofNat]
  omega

/-- A bit above all the bits of `r` is set by OR as by XOR. -/
theorem or_two_pow_eq_xor {r k : Nat} (h : r < 2 ^ k) : r ||| 2 ^ k = r ^^^ 2 ^ k := by
  refine Nat.eq_of_testBit_eq fun i => ?_
  rw [Nat.testBit_or, Nat.testBit_xor]
  by_cases hi : k = i
  · subst hi
    simp [Nat.testBit_lt_two_pow h]
  · simp [Nat.testBit_two_pow_of_ne hi]

/-! ### `logSin` -/

/-- The entry of the quarter-wave table that phase `q` reads: up the table in the first and third quarter of the
period, down it in the second and fourth. -/
def quarterIndex (q : Nat) : Nat := if q % 512 < 256 then q % 512 else 511 - q % 512

theorem quarterIndex_add_half (q : Nat) : quarterIndex ((q + 512) % 1024) = quarterIndex q := by
  rw [quarterIndex, quarterIndex, show (q + 512) % 1024 % 512 = q % 512 by omega]

theorem quarterIndex_mirror {q : Nat} (h : q ≤ 511) : quarterIndex (511 - q) = quarterIndex q := by
  unfold quarterIndex
  split <;> split <;> omega

/-- Rule R145 with the sign and mirror bits of the phase as comparisons. -/
theorem logSin_eq (P : Params) {p : Int} {q : Nat} (h : (q : Int) = p % 1024) :
    logSin P p =
      if q < 512 then (P.logsinRom (BitVec.ofNat 8 (quarterIndex q))).toNat
      else (P.logsinRom (BitVec.ofNat 8 (quarterIndex q))).toNat ||| P.mark := by
  have hphase : BitVec.ofInt 10 p = BitVec.ofNat 10 q :=
    BitVec.eq_of_toNat_eq (by rw [BitVec.toNat_ofInt, BitVec.toNat_ofNat]; omega)
  have hsign : (BitVec.ofNat 10 q).getLsbD 9 = true ↔ ¬ q < 512 := by
    rw [getLsbD_ofNat_iff (by decide)]; omega
  have hmirror : (BitVec.ofNat 10 q).getLsbD 8 = true ↔ ¬ q % 512 < 256 := by
    rw [getLsbD_ofNat_iff (by decide)]; omega
  have hindex : (if q % 512 < 256 then (BitVec.ofNat 10 q).extractLsb' 0 8
      else (BitVec.ofNat 10 q).extractLsb' 0 8 ^^^ 0xFF#8) = BitVec.ofNat 8 (quarterIndex q) := by
    apply BitVec.eq_of_toNat_eq
    rw [quarterIndex, byte_xor_ff]
    split <;> simp only [BitVec.extractLsb'_toNat, BitVec.toNat_ofNat, Nat.shiftRight_zero] <;> omega
  simp only [logSin, hphase, hsign, hmirror, ite_not, hindex]

theorem logSin_add_period (P : Params) (p : Int) : logSin P (p + 1024) = logSin P p :=
  logSin_congr P (BitVec.eq_of_toNat_eq (by rw [BitVec.toNat_ofInt, BitVec.toNat_ofInt]; omega))

/-- The entries are below `MARK`, so that OR-ing it in and leaving it out differ by an XOR with it. -/
theorem logSin_add_half (p : Int) : logSin params (p + 512) = logSin params p ^^^ 0x8000 := by
  obtain ⟨q, hq⟩ : ∃ q : Nat, (q : Int) = p % 1024 := ⟨(p % 1024).toNat, by omega⟩
  have hhalf : (((q + 512) % 1024 : Nat) : Int) = (p + 512) % 1024 := by omega
  have hmark (i : BitVec 8) : (params.logsinRom i).toNat ||| params.mark = (params.logsinRom i).toNat ^^^ 0x8000 :=
    or_two_pow_eq_xor (k := 15) ((params.logsinRom i).isLt.trans (by decide))
  rw [logSin_eq _ hq, logSin_eq _ hhalf, quarterIndex_add_half, hmark]
  by_cases h : q < 512
  · rw [if_pos h, if_neg (by omega)]
  · rw [if_neg h, if_pos (by omega), Nat.xor_assoc, Nat.xor_self, Nat.xor_zero]

theorem logSin_mirror (P : Params) {p : Int} (hlo : 0 ≤ p) (hhi : p ≤ 511) : logSin P (511 - p) = logSin P p := by
  lift p to Nat using hlo
  have hp : ((p : Nat) : Int) = (p : Int) % 1024 := by omega
  have hmirror : ((511 - p : Nat) : Int) = (511 - p : Int) % 1024 := by omega
  rw [logSin_eq P hp, logSin_eq P hmirror, quarterIndex_mirror (by omega), if_pos (by omega), if_pos (by omega)]

/-! ### `expOf` -/

/-- The mantissa of rule R146 for table index `i`, with the base bit and shifted left by 1. -/
def mantissa (P : Params) (i : BitVec 8) : Nat := ((P.expRom i).toNat ||| P.base) <<< 1

/-- Rule R146 with the fields of the operand as arithmetic and the right shifts as floor divisions. -/
theorem expOf_eq (P : Params) (v : Nat) {r : Int}
    (hr : r = ((mantissa P (BitVec.ofNat 8 (255 - v % 256)) / 2 ^ (v / 256 % 128) : Nat) : Int)) :
    expOf P v = if v % 65536 < 32768 then r / 16 else (-r - 1) / 16 := by
  have hsign : (BitVec.ofNat 16 v).getLsbD 15 = true ↔ ¬ v % 65536 < 32768 := by
    rw [getLsbD_ofNat_iff (by decide)]; omega
  have hexp : ((BitVec.ofNat 16 v).extractLsb' 8 7).toNat = v / 256 % 128 := by
    rw [BitVec.extractLsb'_toNat, BitVec.toNat_ofNat, Nat.shiftRight_eq_div_pow]; omega
  have hindex : (BitVec.ofNat 16 v).extractLsb' 0 8 ^^^ 0xFF#8 = BitVec.ofNat 8 (255 - v % 256) := by
    rw [byte_xor_ff, BitVec.extractLsb'_toNat, BitVec.toNat_ofNat, Nat.shiftRight_zero]; congr 2; omega
  have hfields : expOf P v = (if v % 65536 < 32768 then r else cpl r) >>> (4 : Nat) := by
    simp only [expOf, hsign, hexp, hindex, ite_not, hr, mantissa, Nat.shiftRight_eq_div_pow]
  rw [hfields, Int.shiftRight_eq_div_pow, apply_ite (· / ((2 ^ 4 : Nat) : Int))]
  rfl

/-- The last entry of the default `EXP_ROM` is its largest. -/
theorem params_expRom_le (i : BitVec 8) : (params.expRom i).toNat ≤ 1018 := by
  revert i; decide

/-- The base bit stands above the ten bits of an entry. -/
theorem params_mantissa (i : BitVec 8) : mantissa params i = 2 * (params.expRom i).toNat + 2048 := by
  have hbase : (params.expRom i).toNat ||| params.base = params.base + (params.expRom i).toNat := by
    rw [Nat.or_comm]
    exact or_eq_add 10 rfl (params.expRom i).isLt
  rw [mantissa, hbase, Nat.shiftLeft_eq, show params.base = 1024 from rfl]
  omega

theorem params_mantissa_range (i : BitVec 8) : 2048 ≤ mantissa params i ∧ mantissa params i ≤ 4084 := by
  have hle := params_expRom_le i
  rw [params_mantissa]
  omega

/-- Rule R147: the mantissa is at most 4084, and shifting it right does not raise it. -/
theorem expOf_params_range (v : Nat) :
    (v % 65536 < 32768 → 0 ≤ expOf params v ∧ expOf params v ≤ 255) ∧
    (32768 ≤ v % 65536 → -256 ≤ expOf params v ∧ expOf params v ≤ -1) := by
  have hle : mantissa params (BitVec.ofNat 8 (255 - v % 256)) / 2 ^ (v / 256 % 128) ≤ 4084 :=
    (Nat.div_le_self _ _).trans (params_mantissa_range _).2
  rw [expOf_eq params v rfl]
  generalize mantissa params _ / _ = r at hle ⊢
  constructor <;> intro h
  · rw [if_pos h]
    omega
  · rw [if_neg (by omega)]
    omega

/-! ### INIT, and when a command faults -/

theorem State.setReady_of_ready {s : State} (hr : s.status.ready = true) : s.setReady = s := by
  rw [State.setReady, ← hr]

/-- A command leaves the state, raises a fault where none is recorded (INIT never does), or completes. -/
theorem exec_fault_cases {i : Instr} {s t : State} (h : exec i s = .next t) :
    t = s ∨ (s.status.fault = false ∧ i ≠ .init ∧ ∃ c, t = raiseFault c s) ∨ Completes s i t := by
  obtain ⟨-, rfl⟩ | ⟨hf, -, hi, rfl⟩ | ⟨hf, -, rfl⟩ := exec_cases h
  · exact .inl rfl
  · exact .inr (.inl ⟨hf, hi, _, rfl⟩)
  · by_cases hi : i = .init
    · subst hi
      exact .inr (.inr .init)
    · exact .inr ((effect_cases i s).imp_left fun hfault => ⟨hf, hi, hfault⟩)

end Sys2Proof.Machine

/-! ### The statements -/

open Sys2Proof Sys2Proof.Machine

/-- Settles O25: in each quarter the sign bit and the table index of `logSin_eq` are known. -/
theorem logSinQuarters : Obligations.LogSinQuarters := by
  intro p q h
  have hindex : quarterIndex q =
      if q < 256 then q else if q < 512 then 511 - q else if q < 768 then q - 512 else 1023 - q := by
    unfold quarterIndex
    split_ifs <;> omega
  rw [logSin_eq params h, hindex, show params.mark = 0x8000 from rfl]
  by_cases h1 : q < 256
  · simp only [h1, show q < 512 by omega, if_true]
  by_cases h2 : q < 512
  · simp only [h1, h2, if_true, if_false]
  by_cases h3 : q < 768
  · simp only [h1, h2, h3, if_true, if_false]
  · simp only [h1, h2, h3, if_false]

/-- Settles O26: phases half a period apart, or mirrored within a half, read the same entry of the table. -/
theorem logSinSymmetries : Obligations.LogSinSymmetries :=
  ⟨logSin_add_period params, logSin_add_half, fun _ => logSin_mirror params⟩

/-- Settles O27: the fields of `v % 65536` are those of `v`. -/
theorem expOfComposition : Obligations.ExpOfComposition := by
  intro v w m r
  refine expOf_eq params v ?_
  simp only [r, m, w, mantissa, Nat.shiftLeft_eq, Nat.pow_one, Nat.mul_comm 2]
  rw [show v % 65536 % 256 = v % 256 by omega, show v % 65536 / 256 % 128 = v / 256 % 128 by omega]
  rfl

/-- Settles O28 from the range of the mantissa; the two extremes are evaluated. -/
theorem expOfRange : Obligations.ExpOfRange :=
  ⟨params_mantissa_range, fun v => (expOf_params_range v).1, fun v => (expOf_params_range v).2, by decide, by decide⟩

/-- Settles O48: a halted machine stays as it is, a fault entry writes the fault registers of a machine that had none
recorded, and each completed command writes its own register. -/
theorem frameOfSetupCommands : Obligations.FrameOfSetupCommands := by
  intro i s t hi h
  obtain rfl | ⟨hf, hinit, c, rfl⟩ | hc := exec_fault_cases h
  · simp
  · simp [hf, hinit]
  · obtain rfl | ⟨idx, rfl⟩ | ⟨st, m, rfl⟩ := hi <;> cases hc
    · simp
    · simp
    · cases st
      · simp [State.setModeOf_one]
      · simp [State.setModeOf_two]

/-- Settles O15: INIT writes `STATUS.READY` alone, which a running machine has set already. -/
theorem initMarksTablesUsable : Obligations.InitMarksTablesUsable := by
  refine ⟨fun s hf => ?_, fun s ⟨hf, hr⟩ => ?_, fun i s hi hf hr => ?_⟩
  · simp [exec_eq, effect, State.setReady, hf]
  · rw [exec_running hf hr, effect, State.setReady_of_ready hr]
  · simp [exec_notReady hf hr hi, raiseFault, hr, causeCode]
end

section
/-! PROOFS. The statements about the envelope generator (41_envelope_generator.md): first each sub-step as an equation
per case, for any parameters, and from them one evaluation with the gate high and with the gate low; then the
accumulator over a run of evaluations, the default shapes and the envelope rates; then the statements. -/

namespace Sys2Proof.Machine

/-! ### The attack: steps 1 to 3 -/

@[simp] theorem egStart_held (P : Params) (o : OpRegs) : egStart P true true o = o := rfl

@[simp] theorem egStart_rising (P : Params) (o : OpRegs) : egStart P false true o = egStep1 P o := rfl

/-- Steps 2 and 3 with the gate high, which run in the attack stage (rules R174, R175). -/
def attackStep (o : OpRegs) : OpRegs := egStep3 true (egStep2 true o)

theorem toNat_lt_eaMax_iff {x : BitVec 20} : x.toNat < 0xFFFFF ↔ x ≠ 0xFFFFF#20 := by
  rw [ne_eq, ← BitVec.toNat_inj, BitVec.toNat_ofNat]
  omega

theorem egStep2_of_ne {o : OpRegs} {ea : BitVec 20} (hne : o.ea ≠ 0xFFFFF#20)
    (hea : ea.toNat = min (o.ea.toNat + o.ar.toNat) 0xFFFFF) : egStep2 true o = { o with ea := ea, eax := ea } := by
  rw [egStep2, if_pos ⟨rfl, toNat_lt_eaMax_iff.2 hne⟩, (BitVec.toNat_eq_nat.1 hea).2]
  rfl

theorem egStep2_of_max {o : OpRegs} (h : o.ea = 0xFFFFF#20) : egStep2 true o = o := by
  simp [egStep2, h, eaMax]

/-- The attack goes on: the accumulator stays below the maximum. -/
theorem attackStep_of_ne {o : OpRegs} {ea : BitVec 20} (hea : ea.toNat = min (o.ea.toNat + o.ar.toNat) 0xFFFFF)
    (hne : ea ≠ 0xFFFFF#20) : attackStep o = { o with ea := ea, eax := ea } := by
  have hlt := toNat_lt_eaMax_iff.2 hne
  rw [attackStep, egStep2_of_ne (toNat_lt_eaMax_iff.1 (by omega)) hea, egStep3, if_neg fun h => hne h.2]

/-- The attack reaches the maximum. -/
theorem attackStep_of_reach {o : OpRegs} (hne : o.ea ≠ 0xFFFFF#20) (h : 0xFFFFF ≤ o.ea.toNat + o.ar.toNat) :
    attackStep o = { o with stage := .decay, ea := 0xFFFFF#20, eax := 0xFFFFF#20 } := by
  rw [attackStep, egStep2_of_ne (ea := 0xFFFFF#20) hne (min_eq_right h).symm, egStep3, if_pos ⟨rfl, rfl⟩]

/-- The attack stands at the maximum already. -/
theorem attackStep_of_max {o : OpRegs} (h : o.ea = 0xFFFFF#20) : attackStep o = { o with stage := .decay } := by
  rw [attackStep, egStep2_of_max h, egStep3, if_pos ⟨rfl, h⟩]

/-- The accumulator after the attack's sub-steps, whichever case they are in. -/
theorem attackStep_ea (o : OpRegs) : (attackStep o).ea.toNat = min (o.ea.toNat + o.ar.toNat) 0xFFFFF := by
  rw [attackStep, egStep3_ea]
  by_cases h : o.ea = 0xFFFFF#20
  · rw [egStep2_of_max h, h, BitVec.toNat_ofNat]
    omega
  · have hea : (BitVec.ofNat 20 (min (o.ea.toNat + o.ar.toNat) 0xFFFFF)).toNat =
        min (o.ea.toNat + o.ar.toNat) 0xFFFFF := by
      rw [BitVec.toNat_ofNat]
      omega
    rw [egStep2_of_ne h hea, hea]

/-- The attack ends exactly at the maximum. -/
theorem attackStep_stage {o : OpRegs} (hs : o.stage = .attack) :
    (attackStep o).stage = if (attackStep o).ea = 0xFFFFF#20 then .decay else .attack := by
  rw [attackStep, egStep3_ea, egStep3]
  by_cases h : (egStep2 true o).ea = 0xFFFFF#20
  · rw [if_pos ⟨rfl, h⟩, if_pos h]
  · rw [if_neg fun hmax => h hmax.2, if_neg h, egStep2_stage, hs]

/-! ### The decay: step 4 -/

theorem egStep4_of_lt {P : Params} {o : OpRegs} {ea : BitVec 20} (hlt : P.eaSustain.toNat < o.ea.toNat)
    (hea : (ea.toNat : Int) = max ((o.ea.toNat : Int) - o.dr.toNat) P.eaSustain.toNat) :
    egStep4 P true o = { o with ea := ea, eax := P.decayShape ea P.eaSustain } := by
  have hnat : ea.toNat = max (o.ea.toNat - o.dr.toNat) P.eaSustain.toNat := by omega
  rw [egStep4, if_pos ⟨rfl, hlt⟩, (BitVec.toNat_eq_nat.1 hnat).2]

theorem egStep4_of_le {P : Params} {o : OpRegs} (hle : o.ea.toNat ≤ P.eaSustain.toNat) : egStep4 P true o = o :=
  if_neg fun h => hle.not_gt h.2

theorem egStep4_ea_le (P : Params) (o : OpRegs) : (egStep4 P true o).ea.toNat ≤ o.ea.toNat := by
  by_cases hlt : P.eaSustain.toNat < o.ea.toNat
  · rw [egStep4, if_pos ⟨rfl, hlt⟩]
    refine (Nat.mod_le _ _).trans ?_
    omega
  · rw [egStep4_of_le (not_lt.1 hlt)]

/-! ### One evaluation with the gate high, by the stage step 1 leaves -/

section
variable {P : Params} {gateOld : Bool} {o : OpRegs}

theorem egStep_attack (hs : (egStart P gateOld true o).stage = .attack) :
    egStep P gateOld true o =
      egStepLast (if P.egDecaySameTick = true ∧ (attackStep (egStart P gateOld true o)).stage = .decay then
        egStep4 P true (attackStep (egStart P gateOld true o)) else attackStep (egStart P gateOld true o)) := by
  rw [egStep_high]
  refine congrArg egStepLast ?_
  simp only [egGated, if_pos hs, attackStep]
  exact if_congr (by simp [hs]) rfl rfl

theorem egStep_decay (hs : o.stage = .decay) : egStep P true true o = egStepLast (egStep4 P true o) := by
  simp [egStep_high, egGated, hs]

theorem egStep_idle (hs : o.stage = .idle) : egStep P true true o = egStepLast o := by
  simp [egStep_high, egGated, hs]

/-- An evaluation that leaves the attack below the maximum takes no decay step. -/
theorem egStep_attack_of_ne {ea : BitVec 20} (hs : (egStart P gateOld true o).stage = .attack)
    (hea : ea.toNat = min ((egStart P gateOld true o).ea.toNat + o.ar.toNat) 0xFFFFF) (hne : ea ≠ 0xFFFFF#20) :
    egStep P gateOld true o = { egStart P gateOld true o with ea := ea, eax := ea, eao := ea } := by
  rw [egStep_attack hs, attackStep_of_ne (by rwa [egStart_ar]) hne]
  simp [hs, egStepLast]

/-- An evaluation that ends the attack, at `top`, takes a decay step from it only with `EG_DECAY_SAME_TICK` set and the
sustain level below the maximum (rule R172). -/
theorem egStep_attack_of_end {top : OpRegs} (hs : (egStart P gateOld true o).stage = .attack)
    (htop : attackStep (egStart P gateOld true o) = top) (hstage : top.stage = .decay) (hmax : top.ea = 0xFFFFF#20) :
    (P.egDecaySameTick = false ∨ P.eaSustain = 0xFFFFF#20 →
      egStep P gateOld true o = { top with eao := 0xFFFFF#20 }) ∧
    ∀ ea : BitVec 20, P.egDecaySameTick = true → P.eaSustain ≠ 0xFFFFF#20 →
      (ea.toNat : Int) = max (0xFFFFF - (top.dr.toNat : Int)) P.eaSustain.toNat →
      egStep P gateOld true o = { top with ea := ea, eax := P.decayShape ea P.eaSustain, eao := ea } := by
  rw [egStep_attack hs, htop]
  refine ⟨fun hstay => ?_, fun ea htick hne hea => ?_⟩
  · have hkeep : (if P.egDecaySameTick = true ∧ top.stage = .decay then egStep4 P true top else top) = top := by
      obtain hflag | hsus := hstay
      · simp [hflag]
      · rw [egStep4_of_le (by rw [hmax, hsus]), ite_self]
    rw [hkeep, egStepLast, hmax]
  · rw [if_pos ⟨htick, hstage⟩, egStep4_of_lt (by rw [hmax]; exact toNat_lt_eaMax_iff.2 hne) (by rw [hmax]; exact hea)]
    rfl

/-- Without `EG_DECAY_SAME_TICK` an evaluation in the attack stage is the attack's sub-steps alone. -/
theorem egStep_attack_ea_stage (htick : P.egDecaySameTick = false) (hs : (egStart P gateOld true o).stage = .attack) :
    (egStep P gateOld true o).ea.toNat = min ((egStart P gateOld true o).ea.toNat + o.ar.toNat) 0xFFFFF ∧
    (egStep P gateOld true o).stage =
      if (egStep P gateOld true o).ea = 0xFFFFF#20 then .decay else .attack := by
  have hstep : egStep P gateOld true o = egStepLast (attackStep (egStart P gateOld true o)) := by
    simp [egStep_attack hs, htick]
  rw [hstep]
  exact ⟨by rw [egStepLast_ea, attackStep_ea, egStart_ar], attackStep_stage hs⟩

end

/-! ### One evaluation with the gate low -/

theorem egStep6and7_of_zero {P : Params} {o : OpRegs} (h : o.ea = 0#20) : egStep6and7 P false o = o := by
  simp [egStep6and7, h]

theorem egStep6and7_of_ne {P : Params} {o : OpRegs} {raw : BitVec 20} (h : o.ea ≠ 0#20)
    (hraw : (raw.toNat : Int) = ((o.ea.toNat : Int) - o.rra.toNat) % 2 ^ 20) :
    egStep6and7 P false o =
      { o with
          ea := if o.eao.toNat < raw.toNat then 0#20 else raw
          eax := P.releaseShape (if o.eao.toNat < raw.toNat then 0#20 else raw) o.rs o.rsx } := by
  have hsub : o.ea - o.rra = raw := BitVec.eq_of_toNat_eq (by rw [BitVec.toNat_sub]; omega)
  rw [egStep6and7, if_pos ⟨rfl, BitVec.toNat_pos_of_ne_zero h⟩, hsub]

/-- Release and guard together subtract down to 0: a subtraction that wraps ends above `EAo` (rule R182). -/
theorem egStep6and7_ea {P : Params} {o : OpRegs} (h : o.eao = o.ea) :
    (egStep6and7 P false o).ea.toNat = o.ea.toNat - o.rra.toNat := by
  by_cases hz : o.ea = 0#20
  · rw [egStep6and7_of_zero hz, hz]
    simp
  · have hraw : ((o.ea - o.rra).toNat : Int) = ((o.ea.toNat : Int) - o.rra.toNat) % 2 ^ 20 := by
      rw [BitVec.toNat_sub]
      omega
    rw [egStep6and7_of_ne hz hraw, h]
    dsimp only
    split
    · rw [BitVec.toNat_ofNat]
      omega
    · omega

/-- An accumulator released to 0 is shaped to 0, and one that rests there keeps its shaped value (rule R181). -/
theorem egStep6and7_silent {o : OpRegs} (h : o.ea = 0#20 → o.eax = 0#20)
    (hz : (egStep6and7 params false o).ea = 0#20) : (egStep6and7 params false o).eax = 0#20 := by
  unfold egStep6and7 at hz ⊢
  split at hz
  · next hpos =>
    rw [if_pos hpos]
    dsimp only at hz ⊢
    rw [hz, params_releaseShape_zero]
  · next hrest =>
    rw [if_neg hrest]
    exact h hz

/-! ### Runs of evaluations -/

/-- The `m`-th evaluation after the one that sees the rising edge, with the gate held. -/
def attackRun (P : Params) (o : OpRegs) (m : Nat) : OpRegs := (egStep P true true)^[m] (egStep P false true o)

theorem attackRun_succ (P : Params) (o : OpRegs) (m : Nat) :
    attackRun P o (m + 1) = egStep P true true (attackRun P o m) := Function.iterate_succ_apply' _ _ _

@[simp] theorem attackRun_ar (P : Params) (o : OpRegs) (m : Nat) : (attackRun P o m).ar = o.ar := by
  induction m with
  | zero => exact egStep_ar P false true o
  | succ m ih => rw [attackRun_succ, egStep_ar, ih]

/-- As long as the evaluations before it stay below the maximum, an evaluation adds the rate once more, and leaves the
attack when it reaches the maximum. -/
theorem attackRun_ea_stage {P : Params} {o : OpRegs} (htick : P.egDecaySameTick = false) {m : Nat}
    (hm : P.eaInit.toNat + m * o.ar.toNat < 0xFFFFF) :
    (attackRun P o m).ea.toNat = min (P.eaInit.toNat + (m + 1) * o.ar.toNat) 0xFFFFF ∧
    (attackRun P o m).stage = if (attackRun P o m).ea = 0xFFFFF#20 then .decay else .attack := by
  induction m with
  | zero =>
    rw [zero_add, one_mul]
    exact egStep_attack_ea_stage (gateOld := false) (o := o) htick rfl
  | succ m ih =>
    obtain ⟨hea, hstage⟩ := ih (by rw [Nat.succ_mul] at hm; omega)
    rw [min_eq_left hm.le] at hea
    rw [if_neg (toNat_lt_eaMax_iff.1 (hea ▸ hm))] at hstage
    obtain ⟨hea', hstage'⟩ := egStep_attack_ea_stage (gateOld := true) (o := attackRun P o m) htick hstage
    rw [attackRun_succ]
    refine ⟨?_, hstage'⟩
    rw [hea', egStart_held, hea, attackRun_ar, Nat.succ_mul (m + 1), add_assoc]

/-- The `m`-th evaluation after the one that sees the falling edge, with the gate low. -/
def releaseRun (P : Params) (o : OpRegs) (m : Nat) : OpRegs := (egStep P false false)^[m] (egStep P true false o)

theorem releaseRun_succ (P : Params) (o : OpRegs) (m : Nat) :
    releaseRun P o (m + 1) = egStep P false false (releaseRun P o m) := Function.iterate_succ_apply' _ _ _

theorem releaseRun_eao (P : Params) (o : OpRegs) (m : Nat) : (releaseRun P o m).eao = (releaseRun P o m).ea := by
  cases m with
  | zero => exact egStep_eao P true false o
  | succ m => rw [releaseRun_succ, egStep_eao]

/-- The rate snapshotted at the falling edge stays the active one. -/
theorem releaseRun_rra (P : Params) (o : OpRegs) (m : Nat) : (releaseRun P o m).rra = o.rr := by
  induction m with
  | zero => simp [releaseRun, egStep_low]
  | succ m ih => rw [releaseRun_succ, egStep_rra P false false _ rfl, ih]

theorem releaseRun_ea {P : Params} {o : OpRegs} (h : o.eao = o.ea) (m : Nat) :
    (releaseRun P o m).ea.toNat = o.ea.toNat - (m + 1) * o.rr.toNat := by
  induction m with
  | zero =>
    rw [zero_add, one_mul, releaseRun, Function.iterate_zero_apply, egStep_low]
    exact egStep6and7_ea (o := egStep5 o) h
  | succ m ih =>
    rw [releaseRun_succ, egStep_low]
    refine (egStep6and7_ea (releaseRun_eao P o m)).trans ?_
    rw [ih, releaseRun_rra, Nat.succ_mul (m + 1), Nat.sub_sub]

theorem releaseRun_silent {o : OpRegs} (h : 0 < o.ea.toNat) (m : Nat) :
    (releaseRun params o m).ea = 0#20 → (releaseRun params o m).eax = 0#20 := by
  induction m with
  | zero =>
    rw [releaseRun, Function.iterate_zero_apply, egStep_low]
    exact egStep6and7_silent (o := egStep5 o) fun hz => absurd (congrArg BitVec.toNat hz) h.ne'
  | succ m ih =>
    rw [releaseRun_succ, egStep_low]
    exact egStep6and7_silent ih

/-- A count is below `ceil(x / r)` exactly when that many steps of size `r` fall short of `x`. -/
theorem lt_ceil_iff {x r k : Nat} (hr : 0 < r) : k < (x + r - 1) / r ↔ k * r < x := by
  rw [Nat.lt_div_iff_mul_lt hr, mul_comm]
  omega

/-! ### The default shapes -/

/-- The level the default shapes read at position `k` of the exponential table. -/
def expLevel (k : Nat) : Nat := (expRomDefault (BitVec.ofNat 8 k)).toNat

@[simp] theorem expLevel_first : expLevel 0 = 0 := by decide

@[simp] theorem expLevel_last : expLevel 255 = 1018 := by decide

/-- Each entry of the default `EXP_ROM` but the last is at most the next. -/
theorem expRomDefault_le_next (i : BitVec 8) :
    i ≠ 255#8 → (expRomDefault i).toNat ≤ (expRomDefault (i + 1#8)).toNat := by
  revert i; decide

theorem expLevel_le_succ {k : Nat} (hk : k < 255) : expLevel k ≤ expLevel (k + 1) := by
  rw [expLevel, expLevel, BitVec.ofNat_add]
  refine expRomDefault_le_next _ fun h => ?_
  have hval := congrArg BitVec.toNat h
  rw [BitVec.toNat_ofNat, BitVec.toNat_ofNat] at hval
  omega

theorem expLevel_mono {j k : Nat} (hjk : j ≤ k) (hk : k ≤ 255) : expLevel j ≤ expLevel k := by
  induction k, hjk using Nat.le_induction with
  | base => exact le_refl _
  | succ k _ ih => exact (ih (by omega)).trans (expLevel_le_succ hk)

/-- A part of `span` in proportion to the level at position `k`. -/
def scaledLevel (span k : Nat) : Nat := span * expLevel k / 1018

@[simp] theorem scaledLevel_first (span : Nat) : scaledLevel span 0 = 0 := by simp [scaledLevel]

@[simp] theorem scaledLevel_last (span : Nat) : scaledLevel span 255 = span := by simp [scaledLevel]

theorem scaledLevel_mono (span : Nat) {j k : Nat} (hjk : j ≤ k) (hk : k ≤ 255) :
    scaledLevel span j ≤ scaledLevel span k :=
  Nat.div_le_div_right (Nat.mul_le_mul_left _ (expLevel_mono hjk hk))

theorem scaledLevel_le (span : Nat) {k : Nat} (hk : k ≤ 255) : scaledLevel span k ≤ span :=
  (scaledLevel_mono span hk le_rfl).trans_eq (scaledLevel_last span)

/-- A value within its span is read at a position of the table. -/
theorem position_le {x span : Nat} (h : x ≤ span) : x * 255 / span ≤ 255 :=
  Nat.div_le_of_le_mul (Nat.mul_le_mul_right _ h)

/-- Rule R179, as the sustain level and a part of what stands above it; a span of 0 needs no case of its own. -/
theorem params_decayShape_toNat (x sl : BitVec 20) :
    (params.decayShape x sl).toNat =
      sl.toNat + scaledLevel (0xFFFFF - sl.toNat) ((x.toNat - sl.toNat) * 255 / (0xFFFFF - sl.toNat)) := by
  have hle := scaledLevel_le (0xFFFFF - sl.toNat) (position_le (show x.toNat - sl.toNat ≤ 0xFFFFF - sl.toNat by omega))
  have hrom : (expRomDefault 255#8).toNat = 1018 := by decide
  by_cases hspan : 0xFFFFF - sl.toNat = 0
  · simp [params, decayShapeOf, eaMax, hspan]
  · rw [scaledLevel, expLevel] at hle ⊢
    simp only [params, decayShapeOf, eaMax, BitVec.toNat_ofNat, Nat.reduceMod, Nat.reducePow, if_neg hspan, hrom]
    omega

/-- Rule R183, as a part of the shaped value at release entry; a snapshot of 0 needs no case of its own. -/
theorem params_releaseShape_toNat (x rs rsx : BitVec 20) :
    (params.releaseShape x rs rsx).toNat = scaledLevel rsx.toNat (min (x.toNat * 255 / rs.toNat) 255) := by
  have hle := scaledLevel_le rsx.toNat (min_le_right (x.toNat * 255 / rs.toNat) 255)
  have hrom : (expRomDefault 255#8).toNat = 1018 := by decide
  by_cases hrs : rs.toNat = 0
  · simp [params, releaseShapeOf, hrs]
  · rw [scaledLevel, expLevel] at hle ⊢
    simp only [params, releaseShapeOf, BitVec.toNat_ofNat, if_neg hrs, hrom]
    omega

theorem params_decayShape_mono {x y sl : BitVec 20} (hxy : x.toNat ≤ y.toNat) :
    (params.decayShape x sl).toNat ≤ (params.decayShape y sl).toNat := by
  rw [params_decayShape_toNat, params_decayShape_toNat]
  refine Nat.add_le_add_left (scaledLevel_mono _ (Nat.div_le_div_right ?_) (position_le (by omega))) _
  omega

theorem params_releaseShape_mono {x y : BitVec 20} (hxy : x.toNat ≤ y.toNat) (rs rsx : BitVec 20) :
    (params.releaseShape x rs rsx).toNat ≤ (params.releaseShape y rs rsx).toNat := by
  rw [params_releaseShape_toNat, params_releaseShape_toNat]
  refine scaledLevel_mono _ (min_le_min_right _ (Nat.div_le_div_right ?_)) (min_le_right _ _)
  omega

theorem params_decayShape_max (sl : BitVec 20) : params.decayShape 0xFFFFF#20 sl = 0xFFFFF#20 := by
  apply BitVec.eq_of_toNat_eq
  rw [params_decayShape_toNat, show (0xFFFFF#20).toNat = 0xFFFFF from rfl]
  rcases Nat.eq_zero_or_pos (0xFFFFF - sl.toNat) with hspan | hspan
  · rw [hspan, Nat.div_zero, scaledLevel_first]
    omega
  · rw [Nat.mul_div_cancel_left _ hspan, scaledLevel_last]
    omega

theorem params_decayShape_sustain (sl : BitVec 20) : params.decayShape sl sl = sl := by
  apply BitVec.eq_of_toNat_eq
  rw [params_decayShape_toNat]
  simp

theorem params_releaseShape_snapshot {rs : BitVec 20} (rsx : BitVec 20) (h : rs ≠ 0#20) :
    params.releaseShape rs rs rsx = rsx := by
  apply BitVec.eq_of_toNat_eq
  rw [params_releaseShape_toNat, Nat.mul_div_cancel_left _ (BitVec.toNat_pos_of_ne_zero h), min_self, scaledLevel_last]

theorem params_releaseShape_of_snapshot_zero (x rsx : BitVec 20) : params.releaseShape x 0#20 rsx = 0#20 := by
  apply BitVec.eq_of_toNat_eq
  rw [params_releaseShape_toNat]
  simp

/-! ### The envelope rates -/

/-- A rate that the largest does not bound is less than one short of its real rate: at a rate greater by one, `span` is
covered in fewer than `time / scale` ticks. -/
theorem RoundedRate.span_div_succ_lt {lo : Nat} {span scale time : ℝ} {rate : BitVec 20}
    (h : RoundedRate lo (span * scale) time rate) (hscale : 0 < scale) (hmax : (rate.toNat : ℝ) < 0xFFFFF) :
    span / (rate.toNat + 1) < time / scale := by
  obtain ⟨-, -, hup⟩ := h
  have hne : rate.toNat ≠ 0xFFFFF := fun e => by rw [e] at hmax; norm_num at hmax
  rw [div_lt_div_iff₀ (by positivity) hscale, mul_comm time]
  exact hup.resolve_left hne

/-- A rate that the smallest does not bound is less than one above its real rate: at a rate smaller by one, `span` is
covered in more than `time / scale` ticks. -/
theorem RoundedRate.lt_span_div_pred {lo : Nat} {span scale time : ℝ} {rate : BitVec 20}
    (h : RoundedRate lo (span * scale) time rate) (hscale : 0 < scale) (hlo : lo ≠ rate.toNat)
    (hone : 1 < (rate.toNat : ℝ)) : time / scale < span / (rate.toNat - 1) := by
  obtain ⟨-, hdown, -⟩ := h
  rw [div_lt_div_iff₀ hscale (by linarith), mul_comm time]
  exact hdown.resolve_left hlo.symm

/-- A NOTEON of a running machine with a patch selected and a supported note passes its checks (rule R242). -/
theorem exec_noteon_supported {s : State} (hrun : s.Running) (hsel : s.patchSel.v = true) {note : BitVec 7}
    (hlo : params.keyLo ≤ note.toNat) (hhi : note.toNat ≤ params.keyHi) (vel : BitVec 7) :
    exec (.noteon note vel) s = .next ((s.setRridx (s.rridx + 1#5)).setVoice (voiceIdx s.rridx)
      (triggerVoice (keyParam params s.patchSel.idx note) note vel (s.voice (voiceIdx s.rridx)))) := by
  obtain ⟨hf, hr⟩ := hrun
  have hnote : noteSupported params note = true := by simp [noteSupported, hlo, hhi]
  rw [exec_running hf hr, effect]
  obtain ⟨hno, -⟩ | ⟨-, hno, -⟩ | ⟨-, -, he⟩ := noteon_cases params note vel s
  · simp [hsel] at hno
  · simp [hnote] at hno
  · rw [he]

end Sys2Proof.Machine

/-! ### The statements -/

open Sys2Proof Sys2Proof.Machine

/-- Settles O29: the stage that step 1 leaves says which sub-steps run; the three ways to end the attack leave the same
accumulator. -/
theorem gatedEnvelopeStep : Obligations.GatedEnvelopeStep := by
  intro P o ea
  refine ⟨egStep_attack_of_ne (gateOld := false) rfl, fun hs => egStep_attack_of_ne (gateOld := true) hs,
    fun gateOld top htop => ?_, fun hs hlt hea => ?_, fun hs hle => ?_, fun hs => egStep_idle hs⟩
  · obtain ⟨rfl, hreach, rfl⟩ | ⟨rfl, hs, hne, hreach, rfl⟩ | ⟨rfl, hs, hmax, rfl⟩ := htop
    · have hend : attackStep (egStart P false true o) =
          { o with stage := .decay, ea := 0xFFFFF#20, eax := 0xFFFFF#20 } := by
        by_cases hinit : P.eaInit = 0xFFFFF#20
        · rw [egStart_rising, attackStep_of_max (o := egStep1 P o) hinit, egStep1, hinit]
        · exact attackStep_of_reach (o := egStep1 P o) hinit hreach
      exact (egStep_attack_of_end rfl hend rfl rfl).imp_right fun h => h ea
    · exact (egStep_attack_of_end (gateOld := true) hs (attackStep_of_reach hne hreach) rfl rfl).imp_right fun h => h ea
    · exact (egStep_attack_of_end (gateOld := true) hs (attackStep_of_max hmax) rfl hmax).imp_right fun h => h ea
  · rw [egStep_decay hs, egStep4_of_lt hlt hea]
    rfl
  · rw [egStep_decay hs, egStep4_of_le hle]
    rfl

/-- Settles O30: the snapshots of a falling edge leave the accumulator alone, which says whether steps 6 and 7 run. -/
theorem ungatedEnvelopeStep : Obligations.UngatedEnvelopeStep := by
  intro gateOld o s raw ea hs
  have hea : s.ea = o.ea := by rw [hs]; split <;> rfl
  have heao : s.eao = o.eao := by rw [hs]; split <;> rfl
  have hstep : egStep params gateOld false o = egStepLast (egStep6and7 params false s) := by
    rw [egStep_low, hs]
    rfl
  rw [hstep, ← hea, ← heao]
  refine ⟨fun hz => ?_, fun hne hraw hguard => ?_⟩
  · rw [egStep6and7_of_zero hz, egStepLast, hz]
  · rw [egStep6and7_of_ne hne hraw, ← hguard]
    rfl

/-- Settles O31: the falling edge leaves `EA` and `EAo` alone and makes `RR` the active rate. -/
theorem releaseSubtractsDownToZero : Obligations.ReleaseSubtractsDownToZero := fun o h => by
  rw [egStep_low, egStep_low]
  exact ⟨egStep6and7_ea h, egStep6and7_ea (o := egStep5 o) h⟩

/-- Settles O32: the attack adds up to the maximum, step 4 lowers and so do release and guard. -/
theorem envelopeIsMonotone : Obligations.EnvelopeIsMonotone := by
  intro o
  refine ⟨fun hs => ?_, fun hs => ?_, fun gateOld h => ?_, fun gateOld gate => egStep_eao params gateOld gate o⟩
  · obtain ⟨hea, -⟩ := egStep_attack_ea_stage (P := params) (gateOld := true) rfl hs
    rw [hea, egStart_held]
    omega
  · rw [egStep_decay hs]
    exact ⟨egStep4_ea_le params o, by simp [hs]⟩
  · obtain ⟨hheld, hfall⟩ := releaseSubtractsDownToZero o h
    cases gateOld
    · exact hheld.trans_le (Nat.sub_le _ _)
    · exact hfall.trans_le (Nat.sub_le _ _)

/-- Settles O33: `n - 1` is the last count of steps that falls short of the maximum. -/
theorem attackReachesCeilingInTime : Obligations.AttackReachesCeilingInTime := by
  intro o n har hn
  have hceil (k : Nat) : k < n ↔ k * o.ar.toNat < 0xFFFFF := by
    rw [hn]
    exact lt_ceil_iff har
  have hrun {m : Nat} (hm : m < n) := attackRun_ea_stage (P := params) (o := o) (m := m) rfl
    (by rw [show params.eaInit.toNat = 0 from rfl, zero_add]; exact (hceil m).1 hm)
  simp only [show params.eaInit.toNat = 0 from rfl, zero_add] at hrun
  have hpos : 0 < n := (hceil 0).2 (by omega)
  have hlast : (attackRun params o (n - 1)).ea = 0xFFFFF#20 := by
    apply BitVec.eq_of_toNat_eq
    rw [(hrun (by omega)).1, Nat.sub_add_cancel hpos]
    exact min_eq_right (not_lt.1 fun h => lt_irrefl n ((hceil n).2 h))
  refine ⟨hpos, hlast, ?_, fun m hm => toNat_lt_eaMax_iff.1 ?_⟩
  · exact ((hrun (by omega)).2).trans (if_pos hlast)
  · have hshort := (hceil (m + 1)).1 (by omega)
    exact ((hrun (by omega)).1.trans (min_eq_left hshort.le)).trans_lt hshort

/-- Settles O34: `n` is the first count of steps that covers the snapshot, and an accumulator released to 0 is shaped
to 0. -/
theorem releaseReachesSilenceInTime : Obligations.ReleaseReachesSilenceInTime := by
  intro o n heao hea hrr hn
  have hceil (k : Nat) : k < n ↔ k * o.rr.toNat < o.ea.toNat := by
    rw [hn]
    exact lt_ceil_iff hrr
  refine ⟨(hceil 0).2 (by omega), fun m hm => ?_, fun m hm => ?_⟩
  · have hzero : (releaseRun params o m).ea = 0#20 := by
      apply BitVec.eq_of_toNat_eq
      rw [releaseRun_ea heao]
      exact Nat.sub_eq_zero_of_le (not_lt.1 fun h => hm.not_gt ((hceil _).2 h))
    exact ⟨hzero, releaseRun_silent hea m hzero⟩
  · exact (Nat.sub_pos_of_lt ((hceil _).1 hm)).trans_eq (releaseRun_ea heao m).symm

/-- Settles O35: both shapes are a fixed part and a part in proportion to a level of a rising table, read at a position
that rises with `EA`. -/
theorem shapesAreMonotoneAndHitTheEnds : Obligations.ShapesAreMonotoneAndHitTheEnds :=
  ⟨fun _ _ _ _ hxy => params_decayShape_mono hxy, fun sl => ⟨params_decayShape_max sl, params_decayShape_sustain sl⟩,
    fun rs rsx _ _ hxy => params_releaseShape_mono hxy rs rsx,
    fun rs rsx => ⟨params_releaseShape_zero rs rsx, params_releaseShape_snapshot rsx,
      fun x => params_releaseShape_of_snapshot_zero x rsx⟩⟩

/-- Settles O23: `KEYPARAM` holds the rates of `ENV_RATES`, whose requirements are rule R250's. -/
theorem envelopeRatesRiseWithTheNote : Obligations.EnvelopeRatesRiseWithTheNote := by
  refine ⟨params_key_legal, fun s note vel rec i hrun hsel hlo hhi hrec => ?_, fun P idx rec i hlegal hrec => ?_⟩
  · obtain ⟨har, hdr, hrr⟩ := keyParam_rates params_key_legal hrec note i
    refine ⟨_, exec_noteon_supported hrun hsel hlo hhi vel, ?_⟩
    rw [State.setVoice_voice_same, triggerVoice_op, Quad.get_ofFn, loadOp_ar, loadOp_dr, loadOp_rr, har]
    exact ⟨rfl, hdr, hrr, (params_key_legal.rates _ rec i hrec).attack_pos note⟩
  · obtain ⟨hpos, ⟨slope, offset, decayRate, releaseRate, hscaled⟩, hrise⟩ := hlegal.rates idx rec i hrec
    have hrates (n : BitVec 7) := keyParam_rates hlegal hrec n i
    refine ⟨fun n => ?_, fun m n hmn => ?_, slope, offset, decayRate, releaseRate, ?_⟩
    · obtain ⟨har, hdr, hrr⟩ := hrates n
      exact ⟨har, hdr, hrr, har ▸ hpos n⟩
    · obtain ⟨har, hdr, hrr⟩ := hrates m
      obtain ⟨har', hdr', hrr'⟩ := hrates n
      rw [har, hdr, hrr, har', hdr', hrr']
      exact hrise m n hmn
    · rintro n scale ar span rfl rfl rfl
      obtain ⟨har, hdr, hrr⟩ := hrates n
      rw [har, hdr, hrr]
      obtain ⟨hattack, hdecay, hrelease⟩ := hscaled n
      refine ⟨hattack, hdecay, hrelease, fun hscale _ => ⟨hattack.span_div_succ_lt hscale, fun hone => ?_⟩⟩
      exact hattack.lt_span_div_pred hscale (fun e => by rw [← e] at hone; norm_num at hone) hone
end

section
/-! PROOFS. The statements about the phase operator network (42_phase_operator_network.md): the phase and amplitude
steps as arithmetic; one operator; the two modulators in every pair of topologies; the ranges of the sample, the
history, `MIX` and the outputs; then the statements. -/

namespace Sys2Proof.Machine

/-! ### The phase and amplitude steps -/

/-- The visible phase is the top ten bits of a 28-bit accumulator (rule R201). -/
theorem visiblePhase_toNat (pa : BitVec 28) : (pa.extractLsb' 18 10).toNat = pa.toNat / 2 ^ 18 := by
  rw [BitVec.extractLsb'_toNat, Nat.shiftRight_eq_div_pow]
  omega

theorem invLevel_toNat (eax : BitVec 20) : (invLevel eax).toNat = 4095 - eax.toNat / 256 := by
  rw [invLevel, BitVec.toNat_not, BitVec.extractLsb'_toNat, Nat.shiftRight_eq_div_pow]
  omega

theorem ampStep_amp_toNat (eg : BitVec 12) (vel : BitVec 7) (o : OpRegs) :
    (ampStep eg vel o).amp.toNat = min ((4095 - o.eax.toNat / 256) + eg.toNat + 8 * vel.toNat) 4095 := by
  rw [ampStep_amp, invLevel_toNat, Nat.shiftLeft_eq, BitVec.toNat_ofNat]
  omega

/-! ### One operator -/

theorem logSin_emod (P : Params) (p : Int) : logSin P (p % 1024) = logSin P p :=
  logSin_congr P (BitVec.eq_of_toNat_eq (by rw [BitVec.toNat_ofInt, BitVec.toNat_ofInt]; omega))

/-- Below the sign bit, `logSin` is an entry of the 12-bit table (rule R145). -/
theorem logSin_params_mod_lt (p : Int) : logSin params p % 2 ^ 15 < 4096 := by
  obtain ⟨q, hq⟩ : ∃ q : Nat, (q : Int) = p % 1024 := ⟨(p % 1024).toNat, by omega⟩
  have hentry := (params.logsinRom (BitVec.ofNat 8 (quarterIndex q))).isLt
  rw [logSin_eq params hq]
  split
  · omega
  · rw [Nat.or_mod_two_pow, show params.mark % 2 ^ 15 = 0 from rfl, Nat.or_zero]
    omega

/-- What an operator gives: `SILENT` at the cut-off, else the lookup chain at its phase modulo 1024 (rules R204,
R205). -/
theorem opEvalGated_cases {P : Params} {gateAmp amp : BitVec 12} {ph x : Int} (h : x = opEvalGated P gateAmp ph amp) :
    (gateAmp = 4095#12 → x = P.silent) ∧
    (gateAmp ≠ 4095#12 → x = expOf P (logSin P (ph % 1024) + amp.toNat)) := by
  rw [h, opEvalGated, logSin_emod]
  exact ⟨fun hsilent => if_pos hsilent, fun hsounds => if_neg hsounds⟩

theorem expOf_params_inStackRange (v : Nat) : inStackRange (expOf params v) := by
  obtain ⟨hpos, hneg⟩ := expOf_params_range v
  by_cases h : v % 65536 < 32768
  · have := hpos h
    omega
  · have := hneg (not_lt.1 h)
    omega

/-- Rule R147 for any operator, cut off or not. -/
theorem opEvalGated_params_range (gateAmp : BitVec 12) (ph : Int) (amp : BitVec 12) :
    inStackRange (opEvalGated params gateAmp ph amp) := by
  unfold opEvalGated
  split
  · decide
  · exact expOf_params_inStackRange _

/-! ### The modulators -/

@[simp] theorem modOffset_norm (old1 old2 other : Int) : modOffset .norm old1 old2 other = 0 := rfl

@[simp] theorem modOffset_piHalf (old1 old2 other : Int) : modOffset .piHalf old1 old2 other = (old1 + old2) / 16 :=
  Int.shiftRight_eq_div_pow _ 4

@[simp] theorem modOffset_pi (old1 old2 other : Int) : modOffset .pi old1 old2 other = (old1 + old2) / 8 :=
  Int.shiftRight_eq_div_pow _ 3

@[simp] theorem modOffset_cross (old1 old2 other : Int) : modOffset .cross old1 old2 other = other := rfl

/-- Outside CROSS a modulator does not read the other stack. -/
theorem modOut_of_ne_cross (P : Params) {mode : Mode} (h : mode ≠ .cross) (v : Voice) (st : StackId) (x y : Int) :
    modOut P mode v st x = modOut P mode v st y := by
  cases mode with
  | cross => exact absurd rfl h
  | norm | piHalf | pi => rfl

/-- The two modulator outputs, each as its stack's operator over the other's (rules R206, R210, R211): stack 2 always
reads stack 1's output of this tick, and stack 1 stack 2's, of the previous tick where stack 2 is in CROSS too. -/
theorem modulators_eq {P : Params} {mode1 mode2 : Mode} {v : Voice} {m1 m2 : Int}
    (h : modulators P mode1 mode2 v = (m1, m2)) :
    m1 = modOut P mode1 v .one (if mode2 = .cross then v.old1 .two else m2) ∧ m2 = modOut P mode2 v .two m1 := by
  unfold modulators at h
  split at h <;> obtain ⟨rfl, rfl⟩ := Prod.mk.inj h
  case isTrue hmodes =>
    exact ⟨by rw [if_neg hmodes.2], modOut_of_ne_cross P hmodes.2 v .two _ _⟩
  case isFalse hmodes =>
    refine ⟨?_, rfl⟩
    by_cases h2 : mode2 = .cross
    · rw [if_pos h2]
    · exact modOut_of_ne_cross P (fun h1 => hmodes ⟨h1, h2⟩) v .one _ _

/-- The cut-off of stack 2's modulator tests its own attenuation outside the PI/2 anomaly (rule R216). -/
theorem modGateAmp_two_own {P : Params} {mode : Mode} (h : P.pi2GateQuirk = false ∨ mode ≠ .piHalf) (v : Voice) :
    modGateAmp P mode v .two = v.amp .m2 :=
  if_neg fun ⟨hquirk, hmode⟩ => h.elim (fun hoff => by simp [hoff] at hquirk) fun hne => hne hmode

/-- In the PI/2 anomaly it tests the attenuation of stack 2's carrier (rule R216). -/
theorem modGateAmp_two_quirk {P : Params} {mode : Mode} (hquirk : P.pi2GateQuirk = true) (hmode : mode = .piHalf)
    (v : Voice) : modGateAmp P mode v .two = v.amp .c2 := if_pos ⟨hquirk, hmode⟩

theorem modulators_params_range {mode1 mode2 : Mode} {v : Voice} {m1 m2 : Int}
    (h : modulators params mode1 mode2 v = (m1, m2)) : inStackRange m1 ∧ inStackRange m2 := by
  obtain ⟨h1, h2⟩ := modulators_eq h
  exact ⟨h1 ▸ opEvalGated_params_range _ _ _, h2 ▸ opEvalGated_params_range _ _ _⟩

/-! ### The sample and the history -/

/-- Rule R214: two carriers, each in [-256, 255]. -/
theorem networkSample_params_range (mode1 mode2 : Mode) (v : Voice) :
    -512 ≤ networkSample params mode1 mode2 v ∧ networkSample params mode1 mode2 v ≤ 510 := by
  have hcarrier (st : StackId) (m : Int) : inStackRange (carrierOut params v st m) := opEvalGated_params_range _ _ _
  have h1 := hcarrier .one (modulators params mode1 mode2 v).1
  have h2 := hcarrier .two (modulators params mode1 mode2 v).2
  simp only [networkSample]
  omega

/-- A history register holds a modulator output exactly (rule R213). -/
theorem toInt_ofInt_of_inStackRange {m : Int} (h : inStackRange m) : (BitVec.ofInt 14 m).toInt = m :=
  BitVec.toInt_ofInt_eq_self (by decide) (by omega) (by omega)

/-- Rule R213: the history moves down by one and takes the two modulator outputs, which fit it. -/
theorem networkHistory_params_eq {mode1 mode2 : Mode} {v : Voice} {m1 m2 : Int}
    (h : modulators params mode1 mode2 v = (m1, m2)) :
    ∃ h1 h2 : BitVec 14, networkHistory params mode1 mode2 v =
        { v with m1old1 := h1, m1old2 := v.m1old1, m2old1 := h2, m2old2 := v.m2old1 } ∧
      h1.toInt = m1 ∧ h2.toInt = m2 := by
  obtain ⟨hm1, hm2⟩ := modulators_params_range h
  refine ⟨BitVec.ofInt 14 m1, BitVec.ofInt 14 m2, ?_, toInt_ofInt_of_inStackRange hm1, toInt_ofInt_of_inStackRange hm2⟩
  simp only [networkHistory, h]
  rfl

/-- The network of a tick sees the operators the tick leaves, and all else as it was (rule R200). -/
theorem prepared_eq (P : Params) (mode1 mode2 : Mode) (v : Voice) :
    prepared P v = { v with op := (voiceTick P mode1 mode2 v).op } := rfl

/-- Rule R213 inside a voice tick. -/
theorem voiceTick_params_history {mode1 mode2 : Mode} {v : Voice} {m1 m2 : Int}
    (h : modulators params mode1 mode2 (prepared params v) = (m1, m2)) :
    (voiceTick params mode1 mode2 v).m1old1.toInt = m1 ∧ (voiceTick params mode1 mode2 v).m1old2 = v.m1old1 ∧
    (voiceTick params mode1 mode2 v).m2old1.toInt = m2 ∧ (voiceTick params mode1 mode2 v).m2old2 = v.m2old1 := by
  obtain ⟨h1, h2, hhist, hm1, hm2⟩ := networkHistory_params_eq h
  rw [voiceTick, hhist]
  exact ⟨hm1, rfl, hm2, rfl⟩

/-! ### The computed ranges -/

/-- The four history registers of a voice are in the range of a modulator output. -/
def Voice.HistoryOk (v : Voice) : Prop :=
  inStackRange v.m1old1.toInt ∧ inStackRange v.m1old2.toInt ∧ inStackRange v.m2old1.toInt ∧
  inStackRange v.m2old2.toInt

theorem Voice.reset_historyOk : Voice.reset.HistoryOk := by
  unfold Voice.HistoryOk
  decide

/-- NOTEON clears the history as reset does. -/
theorem Voice.HistoryOk.triggerVoice (k : Quad KeyParams) (note vel : BitVec 7) (v : Voice) :
    (triggerVoice k note vel v).HistoryOk := Voice.reset_historyOk

theorem Voice.HistoryOk.releaseFlags {v : Voice} (h : v.HistoryOk) (note : BitVec 7) :
    (releaseFlags note v).HistoryOk := by
  simpa [Voice.HistoryOk] using h

theorem Voice.HistoryOk.voiceTick {v : Voice} (h : v.HistoryOk) (m n : Mode) :
    (voiceTick params m n v).HistoryOk := by
  obtain ⟨h1, -, h2, -⟩ := h
  obtain ⟨hm1, hm2⟩ := modulators_params_range (mode1 := m) (mode2 := n) (v := prepared params v) rfl
  obtain ⟨e1, e1', e2, e2'⟩ := voiceTick_params_history (mode1 := m) (mode2 := n) (v := v) rfl
  rw [Voice.HistoryOk, e1, e1', e2, e2']
  exact ⟨hm1, h1, hm2, h2⟩

/-- Rule R261: 32 samples, each in [-512, 510]. -/
theorem mixSum_params_range (s : State) : inMixRange (mixSum params s) := by
  have hsample (v : Fin 32) := networkSample_params_range s.mode1 s.mode2 (prepared params (s.voice v))
  have hlo := Finset.card_nsmul_le_sum Finset.univ (fun v => voiceSample params s.mode1 s.mode2 (s.voice v)) (-512)
    fun v _ => (hsample v).1
  have hhi := Finset.sum_le_card_nsmul Finset.univ (fun v => voiceSample params s.mode1 s.mode2 (s.voice v)) 510
    fun v _ => (hsample v).2
  rw [mixSum_eq_sum]
  simp only [Finset.card_univ, Fintype.card_fin, nsmul_eq_mul] at hlo hhi
  exact ⟨hlo, hhi⟩

/-- `MIX` holds the sum of a tick exactly. -/
theorem tick_mix_toInt (s : State) : (tick params s).mix.toInt = mixSum params s := by
  have h := mixSum_params_range s
  exact BitVec.toInt_ofInt_eq_self (by decide) (by omega) (by omega)

theorem chorusPush_read {s : State} (h : s.MemoryWf) (k : Line) (a : Nat) :
    Memory.read ((chorusPush s).dl.line k) a = if a = s.wp.toNat then s.mix else Memory.read (s.dl.line k) a := by
  rw [chorusPush, State.setLines_dl, DelayLines.writeAll_line, Memory.read_write (h k)]

theorem chorusPush_read_range {s : State} (hwf : s.MemoryWf) (hs : s.RangesOk) (k : Line) (a : Nat) :
    inMixRange (Memory.read ((chorusPush s).dl.line k) a).toInt := by
  rw [chorusPush_read hwf]
  split
  · exact hs.mix
  · exact hs.lines k a

/-- Rule R285: an output is one tap and twice another, and is held exactly. -/
theorem chorusOut_range {x y : Int} (hx : inMixRange x) (hy : inMixRange y) :
    inOutRange (BitVec.ofInt 20 (x + 2 * y)).toInt := by
  rw [BitVec.toInt_ofInt_eq_self (by decide) (by omega) (by omega)]
  omega

theorem chorus_rangesOk {s : State} (hwf : s.MemoryWf) (hs : s.RangesOk) : (chorus params s).RangesOk :=
  have htap (k : Line) : inMixRange (chorusTap params k (chorusPush s)) := chorusPush_read_range hwf hs k _
  { history := hs.history, mix := hs.mix, lines := chorusPush_read_range hwf hs,
    outl := chorusOut_range (htap .a) (htap .c), outr := chorusOut_range (htap .a) (htap .b) }

/-- A completed command keeps the computed ranges: CHORUS writes the lines and the outputs, TICK the mix, and no other
anything but the histories. -/
theorem Completes.rangesOk {s t : State} {i : Instr} (h : Completes s i t) (hwf : s.MemoryWf) (hs : s.RangesOk)
    (history : ∀ v, (t.voice v).HistoryOk) : t.RangesOk := by
  cases h with
  | tick => exact { hs with history, mix := by rw [tick_mix_toInt]; exact mixSum_params_range s }
  | chorus => exact chorus_rangesOk hwf hs
  | setmode stack mode => cases stack <;> exact { hs with history }
  | init | selpatch | noteon | noteoff | sustain => exact { hs with history }

end Sys2Proof.Machine

/-! ### The statements -/

open Sys2Proof Sys2Proof.Machine

/-- Settles O59: the histories voice by voice, and the rest case by case over what a step can do. -/
theorem stepKeepsComputedRanges : Obligations.StepKeepsComputedRanges := by
  intro s t h hwf hs
  have history : ∀ v, (t.voice v).HistoryOk :=
    step_keeps_voices Voice.reset_historyOk (fun k note vel v _ => Voice.HistoryOk.triggerVoice k note vel v)
      (fun note _ hv => hv.releaseFlags note) (fun _ _ hv => hv) (fun m n _ hv => hv.voiceTick m n) h hs.history
  obtain rfl | ⟨rest, rfl | rfl | ⟨c, rfl⟩ | ⟨i, hc⟩⟩ := step_next_cases h
  · exact hs
  · exact { State.reset_rangesOk with }
  · exact { hs with }
  · exact { hs with }
  · exact hc.rangesOk hwf { hs with } history

/-- Settles O36: both steps write the fields named and no other, in the arithmetic of the rules. -/
theorem phaseWrapsAndAmplitudeClamps : Obligations.PhaseWrapsAndAmplitudeClamps :=
  ⟨fun _ => ⟨_, _, rfl, BitVec.toNat_add _ _, visiblePhase_toNat _⟩,
    fun eg vel o => ⟨_, rfl, ampStep_amp_toNat eg vel o, ampStep_amp_of_zero eg vel⟩⟩

/-- Settles O37: an operator is gated by its own attenuation, and a 12-bit entry and a 12-bit attenuation add up below
bit 15. -/
theorem operatorOutput : Obligations.OperatorOutput := by
  intro ph amp
  obtain ⟨hsilent, hsounds⟩ := opEvalGated_cases (rfl : opEval params ph amp = opEvalGated params amp ph amp)
  have hentry := logSin_params_mod_lt ph
  exact ⟨hsilent, hsounds, by omega, opEvalGated_params_range amp ph amp⟩

/-- Settles O38: each modulator is its stack's operator at the offset of its topology, and the gate of stack 2 is its
own but in the PI/2 anomaly. -/
theorem topologiesOfTheModulators : Obligations.TopologiesOfTheModulators := by
  intro P mode1 mode2 v m1 m2 off1 off2 h hoff1 hoff2
  obtain ⟨h1, h2⟩ := modulators_eq h
  have e1 : modOffset mode1 (v.old1 .one) (v.old2 .one) (if mode2 = .cross then v.old1 .two else m2) = off1 := by
    rw [hoff1]
    cases mode1 <;> simp [Voice.old1, Voice.old2]
  have e2 : modOffset mode2 (v.old1 .two) (v.old2 .two) m1 = off2 := by
    rw [hoff2]
    cases mode2 <;> simp [Voice.old1, Voice.old2]
  rw [modOut, e1] at h1
  rw [modOut, e2] at h2
  obtain ⟨hsilent, hsounds⟩ := opEvalGated_cases h1
  refine ⟨hsilent, hsounds, fun hown => ?_, fun hquirk hmode => ?_⟩
  · rw [modGateAmp_two_own hown] at h2
    exact opEvalGated_cases h2
  · rw [modGateAmp_two_quirk hquirk hmode] at h2
    exact opEvalGated_cases h2

/-- Settles O39: the offsets are those of the definition, and the ranges of the operators leave the sum and the history
exact. -/
theorem carriersSampleAndHistory : Obligations.CarriersSampleAndHistory := by
  intro mode1 mode2 v m1 m2 h
  refine ⟨?_, networkSample_params_range mode1 mode2 v, networkHistory_params_eq h⟩
  simp only [networkSample, h]
  rfl

/-- Settles O40: the network of a tick sees the operators the tick leaves. -/
theorem voiceTickOrder : Obligations.VoiceTickOrder := by
  intro mode1 mode2 v
  refine ⟨voiceTick_op params mode1 mode2 v, voiceTick_gateOld params mode1 mode2 v, voiceTick_gate params mode1 mode2 v,
    voiceTick_gateNew params mode1 mode2 v, ?_, fun m1 m2 h => ?_⟩
  · rw [voiceSample, prepared_eq params mode1 mode2]
  · rw [← prepared_eq] at h
    exact voiceTick_params_history h
end

section
/-! PROOFS. The statements about the voice pool (43_voice_pool.md): the next state of a note command in the form the
rules give it; the run of NOTEONs; the control word and the scaling constant over the real numbers; then the
statements. -/

namespace Sys2Proof.Machine

/-! ### The supported sets, and what each command does by them -/

theorem patchSupported_iff (P : Params) (idx : BitVec 8) :
    patchSupported P idx = true ↔ idx.toNat < P.npatch ∧ P.patchMem idx ≠ none := by
  simp [patchSupported, Option.isSome_iff_ne_none]

theorem patchSupported_eq_false_iff (P : Params) (idx : BitVec 8) :
    patchSupported P idx = false ↔ P.npatch ≤ idx.toNat ∨ P.patchMem idx = none := by
  rw [← Bool.not_eq_true, patchSupported_iff, not_and_or, not_lt, not_not]

theorem noteSupported_iff (P : Params) (note : BitVec 7) :
    noteSupported P note = true ↔ P.keyLo ≤ note.toNat ∧ note.toNat ≤ P.keyHi := by
  simp [noteSupported]

theorem noteSupported_eq_false_iff (P : Params) (note : BitVec 7) :
    noteSupported P note = false ↔ note.toNat < P.keyLo ∨ P.keyHi < note.toNat := by
  rw [← Bool.not_eq_true, noteSupported_iff, not_and_or, not_le, not_le]

theorem selpatch_supported {P : Params} {idx : BitVec 8} (hlt : idx.toNat < P.npatch) (hrec : P.patchMem idx ≠ none)
    (s : State) : selpatch P idx s = s.selectPatch idx :=
  if_pos ((patchSupported_iff P idx).2 ⟨hlt, hrec⟩)

theorem selpatch_unsupported {P : Params} {idx : BitVec 8} (h : P.npatch ≤ idx.toNat ∨ P.patchMem idx = none)
    (s : State) : selpatch P idx s = raiseFault .badPatch s := by
  rw [selpatch, (patchSupported_eq_false_iff P idx).2 h, if_neg Bool.false_ne_true]

theorem noteon_noPatch {s : State} (hsel : s.patchSel.v = false) (P : Params) (note vel : BitVec 7) :
    noteon P note vel s = raiseFault .badPatch s := if_pos hsel

theorem noteon_unsupported {P : Params} {s : State} {note : BitVec 7} (hsel : s.patchSel.v = true)
    (h : note.toNat < P.keyLo ∨ P.keyHi < note.toNat) (vel : BitVec 7) :
    noteon P note vel s = raiseFault .badNote s := by
  rw [noteon, if_neg (by simp [hsel]), if_pos ((noteSupported_eq_false_iff P note).2 h)]

theorem noteoff_unsupported {P : Params} {note : BitVec 7} (h : note.toNat < P.keyLo ∨ P.keyHi < note.toNat)
    (s : State) : noteoff P note s = raiseFault .badNote s := if_pos ((noteSupported_eq_false_iff P note).2 h)

theorem noteoff_supported {P : Params} {note : BitVec 7} (hlo : P.keyLo ≤ note.toNat) (hhi : note.toNat ≤ P.keyHi)
    (s : State) : noteoff P note s = s.mapVoice (releaseFlags note) := by
  rw [noteoff, if_neg (by simp [(noteSupported_iff P note).2 ⟨hlo, hhi⟩])]

/-- A command of a running machine whose effect is a fault, with `STATUS` written out (rule R303). -/
theorem exec_of_fault {s : State} (hrun : s.Running) (i : Instr) {c : Cause} (h : effect i s = raiseFault c s) :
    exec i s = .next { s with status := ⟨true, true⟩, cause := causeCode c } := by
  obtain ⟨hf, hr⟩ := hrun
  simp only [exec_running hf hr, h, raiseFault, hr]

/-! ### The voice a NOTEON takes, and the flags NOTEOFF and SUSTAIN write -/

theorem rridx_succ (r : BitVec 5) : r + 1#5 = BitVec.ofNat 5 ((r.toNat + 1) % 32) := by
  apply BitVec.eq_of_toNat_eq
  rw [BitVec.toNat_add, BitVec.toNat_ofNat, BitVec.toNat_ofNat]
  omega

/-- Rules R244 and R245 field by field: all of the voice but `sustaining` is written. -/
theorem triggerVoice_eq (k : Quad KeyParams) (note vel : BitVec 7) (v : Voice) :
    triggerVoice k note vel v =
      { note := note, vel := vel, noteOn := true, sustaining := v.sustaining,
        gateNew := true, gate := false, gateOld := false,
        m1old1 := 0#14, m1old2 := 0#14, m2old1 := 0#14, m2old2 := 0#14,
        eg := Quad.ofFn fun i => (k.get i).eg,
        op := Quad.ofFn fun i =>
          { stage := .idle, ea := 0#20, eax := 0#20, eao := 0#20, rs := 0#20, rsx := 0#20, rra := 0#20,
            ar := (k.get i).ar, dr := (k.get i).dr, rr := (k.get i).rr, cw := (k.get i).cw,
            pa := 0#28, pae := 0#10, amp := 4095#12 } } := rfl

/-- Rule R251 with the gate request as a case distinction on the pedal. -/
theorem releaseFlags_eq (note : BitVec 7) (v : Voice) :
    releaseFlags note v =
      if v.noteOn = true ∧ v.note = note then
        { v with noteOn := false, gateNew := if v.sustaining = false then false else v.gateNew }
      else v := by
  unfold releaseFlags
  cases v.sustaining <;> simp

/-- NOTEOFF writes `noteOn` and `GATENEW` of a voice and no other field of it. -/
theorem releaseFlags_frame (note : BitVec 7) (v : Voice) :
    releaseFlags note v =
      { v with noteOn := (releaseFlags note v).noteOn, gateNew := (releaseFlags note v).gateNew } := by
  unfold releaseFlags
  split <;> rfl

/-- SUSTAIN writes `sustaining` and `GATENEW` of a voice and no other field of it. -/
theorem pedalFlags_frame (down : Bool) (v : Voice) :
    pedalFlags down v =
      { v with sustaining := (pedalFlags down v).sustaining, gateNew := (pedalFlags down v).gateNew } := rfl

/-- Rule R252 with the gate request as a case distinction. -/
theorem pedalFlags_eq (down : Bool) (v : Voice) :
    pedalFlags down v =
      { v with sustaining := down,
               gateNew := if down = false ∧ v.noteOn = false then false else v.gateNew } := by
  unfold pedalFlags
  cases down <;> cases v.noteOn <;> simp

/-! ### A run of NOTEONs -/

/-- One NOTEON of a run, given as its note and velocity. -/
def noteonNext (u : State) (k : BitVec 7 × BitVec 7) : Option State :=
  match exec (.noteon k.1 k.2) u with
  | .next u' => some u'
  | _ => none

theorem noteonNext_supported {t : State} (hrun : t.Running) (hsel : t.patchSel.v = true) {k : BitVec 7 × BitVec 7}
    (hk : params.keyLo ≤ k.1.toNat ∧ k.1.toNat ≤ params.keyHi) :
    noteonNext t k = some ((t.setRridx (t.rridx + 1#5)).setVoice (voiceIdx t.rridx)
      (triggerVoice (keyParam params t.patchSel.idx k.1) k.1 k.2 (t.voice (voiceIdx t.rridx)))) := by
  rw [noteonNext, exec_noteon_supported hrun hsel hk.1 hk.2]

/-- `Allocated s keys t`: the NOTEONs `keys` have taken voices round-robin from `RRIDX` of `s`, and `t` holds the notes
of the last 32 of them (rule R243). -/
structure Allocated (s : State) (keys : List (BitVec 7 × BitVec 7)) (t : State) : Prop where
  running : t.Running
  selected : t.patchSel.v = true
  rridx : t.rridx.toNat = (s.rridx.toNat + keys.length) % 32
  holds : ∀ (j : Nat) (h : j < keys.length), keys.length ≤ j + 32 →
    (t.voice ⟨(s.rridx.toNat + j) % 32, Nat.mod_lt _ (by omega)⟩).note = keys[j].1

/-- One more NOTEON takes the voice that follows, which none of the last 31 holds. -/
theorem Allocated.noteon {s t : State} {keys : List (BitVec 7 × BitVec 7)} (h : Allocated s keys t)
    {k : BitVec 7 × BitVec 7} (hk : params.keyLo ≤ k.1.toNat ∧ k.1.toNat ≤ params.keyHi) :
    ∃ u, noteonNext t k = some u ∧ Allocated s (keys ++ [k]) u := by
  obtain ⟨hrun, hsel, hrr, hholds⟩ := h
  refine ⟨_, noteonNext_supported hrun hsel hk, hrun, hsel, ?_, fun j hj hlast => ?_⟩
  · rw [State.setVoice_rridx, State.setRridx_rridx, BitVec.toNat_add, hrr, List.length_append]
    exact Nat.mod_add_mod _ 32 1
  · rw [List.length_append, List.length_singleton] at hj hlast
    by_cases hjk : j = keys.length
    · subst hjk
      have hv : (⟨(s.rridx.toNat + keys.length) % 32, Nat.mod_lt _ (by omega)⟩ : Fin 32) = voiceIdx t.rridx :=
        Fin.ext hrr.symm
      rw [hv, State.setVoice_voice_same, triggerVoice_note, List.getElem_concat_length rfl]
    · have hv : (⟨(s.rridx.toNat + j) % 32, Nat.mod_lt _ (by omega)⟩ : Fin 32) ≠ voiceIdx t.rridx := fun e => by
        have hval : (s.rridx.toNat + j) % 32 = t.rridx.toNat := congrArg Fin.val e
        omega
      rw [State.setVoice_voice_ne _ _ _ _ hv, List.getElem_append_left (by omega)]
      exact hholds j (by omega) (by omega)

/-- Every run of NOTEONs with supported notes completes, by induction on its length. -/
theorem exists_allocated {s : State} (hrun : s.Running) (hsel : s.patchSel.v = true)
    (keys : List (BitVec 7 × BitVec 7)) (hkeys : ∀ k ∈ keys, params.keyLo ≤ k.1.toNat ∧ k.1.toNat ≤ params.keyHi) :
    ∃ t, keys.foldlM noteonNext s = some t ∧ Allocated s keys t := by
  induction keys using List.reverseRecOn with
  | nil => exact ⟨s, rfl, hrun, hsel, (Nat.mod_eq_of_lt s.rridx.isLt).symm, nofun⟩
  | append_singleton keys k ih =>
    obtain ⟨t, ht, halloc⟩ := ih fun x hx => hkeys x (by simp [hx])
    obtain ⟨u, hu, halloc'⟩ := halloc.noteon (hkeys k (by simp))
    exact ⟨u, by simp [ht, hu], halloc'⟩

/-! ### The control word -/

/-- `DETUNE` and the ratio written out (rule R248). -/
theorem frequency_eq (K : KeyConfig) (rec : PatchConfig) (i : OpIdx) (note : BitVec 7) :
    frequency K rec i note =
      (K.baseFreq note : ℝ) * (2 : ℝ) ^ (rec.detuneCents.get i / 1200) * rec.ratio.get i := rfl

theorem roundAway_of_nonneg {x : ℝ} (h : 0 ≤ x) : roundAway x = round x := by
  rw [roundAway, if_pos h, round_eq]

theorem roundAway_of_neg {x : ℝ} (h : x < 0) : roundAway x = -round (-x) := by
  rw [roundAway, if_neg h.not_ge, round_eq]

/-- Rounding away from zero is as far from a negative number as `round` is from its opposite. -/
theorem abs_sub_roundAway_of_neg {x : ℝ} (h : x < 0) : |x - (roundAway x : ℝ)| = |-x - (round (-x) : ℝ)| := by
  rw [roundAway_of_neg h, Int.cast_neg, ← abs_neg, neg_sub', neg_neg]

theorem abs_sub_roundAway_le (x : ℝ) : |x - (roundAway x : ℝ)| ≤ 1 / 2 := by
  obtain h | h := le_or_gt 0 x
  · rw [roundAway_of_nonneg h]
    exact abs_sub_round x
  · rw [abs_sub_roundAway_of_neg h]
    exact abs_sub_round (-x)

/-- `round` takes a half up. -/
theorem round_eq_add_half_of_tie {x : ℝ} (h : |x - (round x : ℝ)| = 1 / 2) : (round x : ℝ) = x + 1 / 2 := by
  have hlt : x + 1 / 2 < (round x : ℝ) + 1 := by
    rw [round_eq]
    exact Int.lt_floor_add_one _
  obtain e | e := eq_or_eq_neg_of_abs_eq h <;> linarith

/-- `roundAway` takes a half away from zero (rule R15). -/
theorem abs_lt_abs_roundAway_of_tie {x : ℝ} (h : |x - (roundAway x : ℝ)| = 1 / 2) : |x| < |(roundAway x : ℝ)| := by
  obtain hx | hx := le_or_gt 0 x
  · rw [roundAway_of_nonneg hx] at h ⊢
    rw [round_eq_add_half_of_tie h, abs_of_nonneg hx, abs_of_pos (by linarith)]
    linarith
  · rw [abs_sub_roundAway_of_neg hx] at h
    rw [roundAway_of_neg hx, Int.cast_neg, abs_neg, round_eq_add_half_of_tie h, abs_of_neg hx,
      abs_of_pos (by linarith)]
    linarith

/-! ### The scaling constant -/

theorem curveIndex_val (note : BitVec 7) :
    (curveIndex note).val = if note.toNat ≤ 86 then note.toNat / 2 + 2 else 45 := by
  simp only [curveIndex]
  split <;> omega

/-- The clamp to [0, 4095] fits twelve bits. -/
theorem scalingConstant_toNat (K : KeyConfig) (rec : PatchConfig) (i : OpIdx) (note : BitVec 7) :
    ((scalingConstant K rec i note).toNat : Int) =
      min (max (K.egStage2 (scaleFactor (rec.curve.get i) note)) 0) 4095 := by
  rw [scalingConstant, BitVec.toNat_ofInt]
  omega

/-! ### TICK -/

/-- TICK writes the voices and `MIX` (rule R260). -/
theorem tick_frame (P : Params) (s : State) :
    tick P s = { s with voices := (tick P s).voices, mix := (tick P s).mix } := rfl

end Sys2Proof.Machine

/-! ### The statements -/

open Sys2Proof Sys2Proof.Machine

/-- Settles O16: an index is supported or it faults. -/
theorem selpatchSelectsSupportedPatch : Obligations.SelpatchSelectsSupportedPatch := by
  intro s idx hrun
  refine ⟨fun hlt hrec => ?_, fun hno => exec_of_fault hrun (.selpatch idx) (selpatch_unsupported hno s)⟩
  rw [exec_running hrun.1 hrun.2, effect, selpatch_supported hlt hrec, State.selectPatch]

/-- Settles O17, one stack at a time. -/
theorem setmodeWritesOneMode : Obligations.SetmodeWritesOneMode := fun _ _ ⟨hf, hr⟩ =>
  ⟨exec_running hf hr _, exec_running hf hr _⟩

/-- Settles O18: the two checks in their order, then the voice `RRIDX` names written field by field. -/
theorem noteonTriggersNextVoice : Obligations.NoteonTriggersNextVoice := by
  intro s note vel hrun
  refine ⟨fun hsel => exec_of_fault hrun (.noteon note vel) (noteon_noPatch hsel params note vel),
    fun hsel hno => exec_of_fault hrun (.noteon note vel) (noteon_unsupported hsel hno vel), fun hsel hlo hhi =>
      ⟨_, exec_noteon_supported hrun hsel hlo hhi vel, ?_, fun w hw => State.setVoice_voice_ne _ _ _ _ hw, ?_⟩⟩
  · rw [← rridx_succ]
    rfl
  · rw [State.setVoice_voice_same, triggerVoice_eq]

/-- Settles O19: the check, then the flags voice by voice. -/
theorem noteoffReleasesHolders : Obligations.NoteoffReleasesHolders := by
  intro s note hrun
  refine ⟨fun hno => exec_of_fault hrun (.noteoff note) (noteoff_unsupported hno s),
    fun hlo hhi => ⟨s.mapVoice (releaseFlags note), ?_, rfl, fun v => ?_⟩⟩
  · rw [exec_running hrun.1 hrun.2, effect, noteoff_supported hlo hhi]
  · rw [State.mapVoice_voice, releaseFlags_eq]

/-- Settles O20, voice by voice. -/
theorem sustainMovesEveryPedal : Obligations.SustainMovesEveryPedal := fun s down ⟨hf, hr⟩ =>
  ⟨s.mapVoice (pedalFlags down), exec_running hf hr _, rfl, fun v => by rw [State.mapVoice_voice, pedalFlags_eq]⟩

/-- Settles O21: each NOTEON of the run takes the voice after the last one taken. -/
theorem allocationIsRoundRobin : Obligations.AllocationIsRoundRobin := by
  intro keys s hrun hsel hkeys
  obtain ⟨t, ht, halloc⟩ := exists_allocated hrun hsel keys hkeys
  exact ⟨t, ht, halloc.running, halloc.rridx, halloc.holds⟩

/-- Settles O22: `KEYPARAM` holds the control word of rule R248, and the rounding is that of rule R15. -/
theorem controlWordIsRoundedQuotient : Obligations.ControlWordIsRoundedQuotient := by
  rintro P idx rec i note f x hlegal hrec hfreq hne rfl
  refine ⟨roundAway (2 ^ 28 / (P.key.fsInternal / f)), ?_, abs_sub_roundAway_le _, abs_lt_abs_roundAway_of_tie⟩
  rw [← frequency_eq] at hfreq
  rw [keyParam, hlegal.composed idx rec note i hrec, operatorParams]
  simp only [controlWord, ← hfreq, if_neg hne]

/-- Settles O24: `KEYPARAM` holds the scaling constant of rule R249, whose factor is the clamped entry. -/
theorem scalingConstantIsRemapped : Obligations.ScalingConstantIsRemapped := by
  refine ⟨curveIndex_val, ?_⟩
  rintro P idx rec i note lo hi c hlegal hrec rfl rfl rfl
  refine ⟨scaleFactor (rec.curve.get i) note, fun heq => if_pos heq, fun hne => ?_, ?_⟩
  · rw [scaleFactor, if_neg hne]
    refine ⟨fun hle => ?_, fun hge => ?_, fun h0 h1 => ?_⟩
    · rw [max_eq_right hle, min_eq_left zero_le_one]
    · rw [max_eq_left (zero_le_one.trans hge), min_eq_right hge]
    · rw [max_eq_left h0, min_eq_left h1]
  · rw [keyParam, hlegal.composed idx rec note i hrec, operatorParams, scalingConstant_toNat]

/-- Settles O42: the sum of the samples is in the range of `MIX`, which therefore holds it exactly. -/
theorem tickAdvancesEveryVoice : Obligations.TickAdvancesEveryVoice := fun s ⟨hf, hr⟩ => by
  refine ⟨tick params s, exec_running hf hr .tick, tick_frame params s, tick_voice params s, ?_, ?_⟩
  · rw [tick_mix_toInt, mixSum_eq_sum]
  · rw [tick_mix_toInt]
    exact mixSum_params_range s

/-- Settles O49: a halted machine stays as it is, a fault entry writes the fault registers of a machine that had none
recorded, and each completed command writes its own fields of the voices. -/
theorem frameOfNoteCommands : Obligations.FrameOfNoteCommands := by
  intro i s t hi h
  obtain rfl | ⟨hf, -, c, rfl⟩ | hc := exec_fault_cases h
  · simp
  · simp [hf]
  · obtain ⟨n, l, rfl⟩ | ⟨n, rfl⟩ | ⟨d, rfl⟩ := hi <;> cases hc
    · simp +contextual [State.setVoice_voice_ne]
    · simpa using fun v => releaseFlags_frame n (s.voice v)
    · simpa using fun v => pedalFlags_frame d (s.voice v)

/-- Settles O50: a TICK that completes writes the voices and `MIX`, and of each voice what `voiceTick` writes. -/
theorem frameOfTick : Obligations.FrameOfTick := by
  intro s t h
  obtain rfl | ⟨hf, -, c, rfl⟩ | hc := exec_fault_cases h
  · simp
  · simp [hf]
  · cases hc
    refine ⟨fun _ _ => rfl, rfl, rfl, rfl, rfl, rfl, rfl, rfl, rfl, rfl, rfl, fun _ => rfl, fun v => ?_⟩
    simp +contextual [egStep_rs, egStep_rsx, egStep_rra]

/-- Settles O53: of the updates of a voice `triggerVoice` alone writes a key parameter. -/
theorem keyParametersAreWrittenOnlyByNoteon : Obligations.KeyParametersAreWrittenOnlyByNoteon := by
  intro i s t v h hother
  obtain rfl | ⟨c, rfl⟩ | hc := exec_next_cases h
  · simp
  · simp
  · obtain e | ⟨n, l, hn, hv, -⟩ | ⟨_, -, e⟩ | ⟨_, -, e⟩ | ⟨-, e⟩ := hc.voice_cases v
    · simp [e]
    · exact hother.elim (fun hne => absurd hn (hne n l)) (absurd hv)
    · simp [e]
    · simp [e]
    · simp [e]
end

section
/-! PROOFS. The statements about the chorus (44_chorus.md): the delay lines, as a command and a step leave them; the
taps and the outputs of a CHORUS; then the statements. -/

namespace Sys2Proof.Machine

/-! ### The delay lines -/

@[simp] theorem tick_dl (P : Params) (s : State) : (tick P s).dl = s.dl := rfl
@[simp] theorem chorus_dl (P : Params) (s : State) : (chorus P s).dl = s.dl.writeAll s.wp.toNat s.mix := rfl

/-- `WP` always indexes a delay line. -/
theorem State.wp_lt_dlCap (s : State) : s.wp.toNat < dlCap := s.wp.isLt

/-- The three lines are left alone, or written at `WP` by a CHORUS. -/
theorem Completes.dl_cases {s t : State} {i : Instr} (h : Completes s i t) :
    t.dl = s.dl ∨ (i = .chorus ∧ t.dl = s.dl.writeAll s.wp.toNat s.mix) := by
  cases h with
  | chorus => exact .inr ⟨rfl, rfl⟩
  | _ => exact .inl (by simp)

/-- A property of the lines that holds of empty ones and that a write of one sample at an index in range keeps is kept
by every step. -/
theorem step_keeps_dl {Q : DelayLines → Prop} (empty : Q ⟨[], [], []⟩)
    (write : ∀ d a x, a < dlCap → Q d → Q (d.writeAll a x)) {s t : State} (h : step s = .next t) (hs : Q s.dl) :
    Q t.dl := by
  refine step_keeps (I := fun s => Q s.dl) empty (fun _ _ hs => hs) (fun _ _ hs => hs) (fun i s t hc hs => ?_) h hs
  obtain e | ⟨-, e⟩ := hc.dl_cases <;> rw [e]
  · exact hs
  · exact write _ _ _ s.wp_lt_dlCap hs

/-! ### The taps and the outputs -/

/-- Rule R284 after the write of rule R283: a delay of 0 reads `MIX`, any other an older element. -/
theorem chorusTap_chorusPush {s : State} (hwf : s.MemoryWf) (k : Line) :
    chorusTap params k (chorusPush s) =
      if lfoDelay params k s.chtick = 0 then s.mix.toInt
      else (Memory.read (s.dl.line k) ((s.wp.toNat + 64 - lfoDelay params k s.chtick) % 64)).toInt := by
  have hindex : tapIndex params k (chorusPush s) = (s.wp.toNat + 64 - lfoDelay params k s.chtick) % 64 :=
    tapIndex_params k (chorusPush s)
  have hdelay : lfoDelay params k s.chtick ≤ 63 := (lfoDelay_le params k s.chtick).trans (lineRange_le k)
  have hnew : (s.wp.toNat + 64 - lfoDelay params k s.chtick) % 64 = s.wp.toNat ↔ lfoDelay params k s.chtick = 0 := by
    omega
  rw [chorusTap, hindex, chorusPush_read hwf, if_congr hnew rfl rfl]
  exact apply_ite BitVec.toInt _ _ _

/-- Rule R285: the 20 bits of an output hold one sample and twice another exactly. -/
theorem chorusOut_toInt (x y : Sample) : (BitVec.ofInt 20 (x.toInt + 2 * y.toInt)).toInt = x.toInt + 2 * y.toInt := by
  have hx := x.le_toInt
  have hx' := x.toInt_lt
  have hy := y.le_toInt
  have hy' := y.toInt_lt
  exact BitVec.toInt_ofInt_eq_self (by decide) (by omega) (by omega)

theorem chorus_outl_toInt (P : Params) (s : State) :
    (chorus P s).outl.toInt = chorusTap P .a (chorusPush s) + 2 * chorusTap P .c (chorusPush s) := chorusOut_toInt _ _

theorem chorus_outr_toInt (P : Params) (s : State) :
    (chorus P s).outr.toInt = chorusTap P .a (chorusPush s) + 2 * chorusTap P .b (chorusPush s) := chorusOut_toInt _ _

/-- CHORUS writes the lines, the outputs and the two counters alone. -/
theorem chorus_frame (P : Params) (s : State) :
    chorus P s = { s with dl := (chorus P s).dl, outl := (chorus P s).outl, outr := (chorus P s).outr,
                          wp := (chorus P s).wp, chtick := (chorus P s).chtick } := rfl

/-- Rules R15 and R283: what an element of a line reads after a CHORUS. -/
theorem chorus_read (P : Params) {s : State} (hwf : s.MemoryWf) (k : Line) (a : Nat) :
    Memory.read ((chorus P s).dl.line k) a = if a = s.wp.toNat then s.mix else Memory.read (s.dl.line k) a :=
  chorusPush_read hwf k a

/-- A delay within its line's range is left as it is (rule R310). -/
theorem lfoDelay_eq_of_le {P : Params} {k : Line} {t : BitVec 16} (h : P.lfo k t ≤ lineRange k) :
    lfoDelay P k t = P.lfo k t := min_eq_left h

end Sys2Proof.Machine

/-! ### The statements -/

open Sys2Proof Sys2Proof.Machine

/-- Settles O57: a CHORUS alone writes the lines, all three alike and at an index in range, and reset empties them. -/
theorem stepKeepsDelayLines : Obligations.StepKeepsDelayLines := by
  intro s t h
  refine ⟨?_, ?_⟩
  · refine step_keeps_dl (Q := fun d => ∀ k, (d.line k).wf = true) State.reset_memoryWf (fun d a x ha hd k => ?_) h
    rw [DelayLines.writeAll_line]
    exact Memory.write_wf ha (hd k)
  · refine step_keeps_dl (Q := fun d => d.a = d.b ∧ d.b = d.c) ⟨rfl, rfl⟩ (fun d a x _ hd => ?_) h
    obtain ⟨hab, hbc⟩ := hd
    exact ⟨congrArg (Memory.write a x) hab, congrArg (Memory.write a x) hbc⟩

/-- Settles O45: the taps are those of the pushed lines, and an output holds its sum exactly. -/
theorem chorusPushesReadsAndAdvances : Obligations.ChorusPushesReadsAndAdvances := fun s ⟨hf, hr⟩ hwf => by
  refine ⟨chorus params s, fun k => chorusTap params k (chorusPush s), exec_running hf hr .chorus,
    chorus_frame params s, chorus_read params hwf, chorusTap_chorusPush hwf, chorus_outl_toInt params s,
    chorus_outr_toInt params s, ?_, ?_⟩
  · simp
  · simp

/-- Settles O51: a halted machine stays as it is, a fault entry writes the fault registers of a machine that had none
recorded, and a completed CHORUS stores at `WP`. -/
theorem frameOfChorus : Obligations.FrameOfChorus := by
  intro s t hwf h
  obtain rfl | ⟨hf, -, c, rfl⟩ | hc := exec_fault_cases h
  · simp
  · simp [hf]
  · cases hc
    refine ⟨fun _ => rfl, rfl, rfl, rfl, rfl, rfl, rfl, rfl, fun _ => rfl, fun k a ha => ?_⟩
    rw [chorus_read params hwf, if_neg ha]

/-- Settles O46: the clamp of `LFO_DELAY` is the bound of its line. -/
theorem delaysStayInBounds : Obligations.DelaysStayInBounds :=
  ⟨fun t => ⟨lfoDelay_le params .a t, lfoDelay_le params .b t, lfoDelay_le params .c t⟩,
    fun _ _ => ⟨lfoDelay_eq_of_le, lfoDelay_eq_of_le, lfoDelay_eq_of_le⟩⟩
end

section
/-! PROOFS. The statements about faults (60_exceptions.md): a halted machine, a fault entry, and which cause a command
records; then the statements. -/

namespace Sys2Proof.Machine

/-! ### Words and commands of a halted machine -/

theorem illegalWord_halted {s : State} (hf : s.status.fault = true) : illegalWord s = .next s :=
  unlessHalted_halted hf _

/-! ### The cause a command records, or none -/

/-- Rule R303: what the host reads after a command whose effect is a fault. -/
theorem effect_records (i : Instr) {s : State} {c : Cause} (h : effect i s = raiseFault c s) :
    (effect i s).status.fault = true ∧ (effect i s).cause = causeCode c := by
  simp [h]

/-- A completed command records no cause. -/
theorem Completes.records_none {s t : State} {i : Instr} (h : Completes s i t) (hf : s.status.fault = false)
    (hc : s.cause = 0#3) : t.status.fault = false ∧ t.cause = 0#3 := by
  obtain ⟨hfault, hcause⟩ := h.fault_cause
  exact ⟨hfault.trans hf, hcause.trans hc⟩

theorem effect_selpatch_completes {idx : BitVec 8} (hlt : idx.toNat < params.npatch)
    (hrec : params.patchMem idx ≠ none) (s : State) : Completes s (.selpatch idx) (effect (.selpatch idx) s) := by
  rw [effect, selpatch_supported hlt hrec]
  exact .selpatch idx ((patchSupported_iff params idx).2 ⟨hlt, hrec⟩)

theorem effect_noteon_completes {s : State} (hsel : s.patchSel.v = true) {note : BitVec 7}
    (hlo : params.keyLo ≤ note.toNat) (hhi : note.toNat ≤ params.keyHi) (vel : BitVec 7) :
    Completes s (.noteon note vel) (effect (.noteon note vel) s) := by
  have hnote : noteSupported params note = true := (noteSupported_iff params note).2 ⟨hlo, hhi⟩
  rw [effect, noteon, if_neg (by simp [hsel]), if_neg (by simp [hnote])]
  exact .noteon note vel

theorem effect_noteoff_completes {note : BitVec 7} (hlo : params.keyLo ≤ note.toNat)
    (hhi : note.toNat ≤ params.keyHi) (s : State) : Completes s (.noteoff note) (effect (.noteoff note) s) := by
  rw [effect, noteoff_supported hlo hhi]
  exact .noteoff note

/-- SUSTAIN, TICK, CHORUS and SETMODE raise no fault of their own (rule R301). -/
theorem effect_completes_of_noChecks {i : Instr}
    (hi : (∃ d, i = .sustain d) ∨ i = .tick ∨ i = .chorus ∨ ∃ st m, i = .setmode st m) (s : State) :
    Completes s i (effect i s) := by
  obtain ⟨d, rfl⟩ | rfl | rfl | ⟨st, m, rfl⟩ := hi
  · exact .sustain d
  · exact .tick
  · exact .chorus
  · exact .setmode st m

/-- INIT has its effect whether or not the tables are usable (rule R120 (3)). -/
theorem exec_init_of_noFault {s : State} (hf : s.status.fault = false) : exec .init s = .next (effect .init s) := by
  simp [exec_eq, hf]

end Sys2Proof.Machine

/-! ### The statements -/

open Sys2Proof Sys2Proof.Machine

/-- Settles O10: on a halted machine a legal word runs a command that does nothing, and any other word is ignored. -/
theorem haltIgnoresEveryWord : Obligations.HaltIgnoresEveryWord := by
  refine ⟨fun s w rest hf hp => ?_, fun i s hf => exec_halted hf i⟩
  rw [step_word hp]
  rcases decode w with r | i
  · exact illegalWord_halted (s := s.setPort rest) hf
  · exact exec_halted (s := s.setPort rest) hf i

/-- Settles O11: of the cases of a command's next state, only the fault entry sets `STATUS.FAULT`. -/
theorem faultEntryIsPrecise : Obligations.FaultEntryIsPrecise := by
  intro i s t h hs ht
  obtain rfl | ⟨-, -, c, rfl⟩ | hc := exec_fault_cases h
  · simp [hs] at ht
  · exact ⟨c, rfl⟩
  · obtain ⟨hfault, -⟩ := hc.fault_cause
    simp [hfault, hs] at ht

/-- Settles O12: the checks in the order of rule R302. Past the tables check a command has its effect, which faults
or completes by the supported sets. -/
theorem faultPriority : Obligations.FaultPriority := by
  intro s t w rest hp hf hc ht
  have hf' : (s.setPort rest).status.fault = false := hf
  rw [step_word hp] at ht
  refine ⟨fun hill => ?_, fun i hd => ?_⟩
  · rcases hd : decode w with r | i
    · rw [hd] at ht
      cases (illegalWord_of_noFault hf').symm.trans ht
      exact ⟨rfl, rfl⟩
    · exact absurd hd (hill i)
  rw [hd] at ht
  refine ⟨fun hi hr => ?_, ?_, fun hr => ?_⟩
  · cases (exec_notReady (s := s.setPort rest) hf hr hi).symm.trans ht
    exact ⟨rfl, rfl⟩
  · rintro rfl
    cases (exec_init_of_noFault hf').symm.trans ht
    exact Completes.init.records_none hf' hc
  cases (exec_running (s := s.setPort rest) hf hr i).symm.trans ht
  refine ⟨?_, ?_, ?_, fun hi => (effect_completes_of_noChecks hi _).records_none hf' hc⟩
  · rintro idx rfl
    exact ⟨fun hno => effect_records (.selpatch idx) (selpatch_unsupported hno _),
      fun hlt hrec => (effect_selpatch_completes hlt hrec _).records_none hf' hc⟩
  · rintro note vel rfl
    exact ⟨fun hsel => effect_records (.noteon note vel) (noteon_noPatch (s := s.setPort rest) hsel params note vel),
      fun hsel hno => effect_records (.noteon note vel) (noteon_unsupported (s := s.setPort rest) hsel hno vel),
      fun hsel hlo hhi => (effect_noteon_completes (s := s.setPort rest) hsel hlo hhi vel).records_none hf' hc⟩
  · rintro note rfl
    exact ⟨fun hno => effect_records (.noteoff note) (noteoff_unsupported hno _),
      fun hlo hhi => (effect_noteoff_completes hlo hhi _).records_none hf' hc⟩
end

section
/-! PROOFS. The statements about reset and the hazards (70_reset_and_hazards.md): a voice whose envelopes have not
started, the voice a NOTEON leaves and the ticks after it; then the statements. -/

namespace Sys2Proof.Machine

/-! ### A voice at rest -/

/-- A voice whose envelopes have not started and whose applied gates are low, whatever gate is requested: what a NOTEON
leaves of the voice it takes (rules R244, R333). -/
structure Voice.AtRest (v : Voice) : Prop where
  gate : v.gate = false
  gateOld : v.gateOld = false
  idle : ∀ i, (v.op.get i).stage = .idle
  zero : ∀ i, (v.op.get i).ea = 0#20 ∧ (v.op.get i).eax = 0#20

theorem Voice.AtRest.triggerVoice (k : Quad KeyParams) (note vel : BitVec 7) (v : Voice) :
    (triggerVoice k note vel v).AtRest where
  gate := rfl
  gateOld := rfl
  idle i := by simp
  zero i := by simp

theorem Voice.AtRest.releaseFlags {v : Voice} (h : v.AtRest) (note : BitVec 7) : (releaseFlags note v).AtRest where
  gate := (releaseFlags_gate note v).trans h.gate
  gateOld := (releaseFlags_gateOld note v).trans h.gateOld
  idle i := by rw [releaseFlags_op, h.idle]
  zero i := by rw [releaseFlags_op]; exact h.zero i

/-- A tick reads the applied gates and not the requested one, so a voice at rest is silent as a decayed one is. -/
theorem Voice.AtRest.voiceSample_eq_zero {v : Voice} (h : v.AtRest) (m n : Mode) : voiceSample params m n v = 0 :=
  (decayedVoiceStaysSilent m n { v with gateNew := false } rfl h.gate h.gateOld h.zero).1

/-- A tick starts no envelope of a voice at rest: it leaves each operator idle and at zero. -/
theorem Voice.AtRest.op_after_voiceTick {v : Voice} (h : v.AtRest) (m n : Mode) (i : OpIdx) :
    ((voiceTick params m n v).op.get i).stage = .idle ∧
    ((voiceTick params m n v).op.get i).ea = 0#20 ∧ ((voiceTick params m n v).op.get i).eax = 0#20 := by
  obtain ⟨hea, heax⟩ := h.zero i
  rw [voiceTick_op, h.gate, h.gateOld, egStep_low_of_zero hea]
  exact ⟨h.idle i, hea, heax⟩

/-- A tick that latches no request leaves a voice at rest. -/
theorem Voice.AtRest.after_voiceTick {v : Voice} (h : v.AtRest) (hnew : v.gateNew = false) (m n : Mode) :
    (voiceTick params m n v).AtRest where
  gate := (voiceTick_gate params m n v).trans hnew
  gateOld := (voiceTick_gateOld params m n v).trans h.gate
  idle i := (h.op_after_voiceTick m n i).1
  zero i := (h.op_after_voiceTick m n i).2

/-- Without a request a voice stays at rest for any number of ticks. -/
theorem Voice.AtRest.iterate_voiceTick {v : Voice} (h : v.AtRest) (hnew : v.gateNew = false) (m n : Mode) (k : Nat) :
    ((voiceTick params m n)^[k] v).AtRest ∧ ((voiceTick params m n)^[k] v).gateNew = false := by
  induction k with
  | zero => exact ⟨h, hnew⟩
  | succ k ih =>
    obtain ⟨hrest, hlow⟩ := ih
    rw [Function.iterate_succ_apply']
    exact ⟨hrest.after_voiceTick hlow m n, (voiceTick_gateNew params m n _).trans hlow⟩

/-! ### The ticks and the NOTEOFF after a NOTEON -/

/-- Rules R242 and R243: where a NOTEON passes its checks, the machine runs on with `RRIDX` advanced and the voice that
`RRIDX` named triggered. -/
theorem exists_exec_noteon {s : State} (hrun : s.Running) (hsel : s.patchSel.v = true) {note : BitVec 7}
    (hlo : params.keyLo ≤ note.toNat) (hhi : note.toNat ≤ params.keyHi) (vel : BitVec 7) :
    ∃ t, exec (.noteon note vel) s = .next t ∧ t.Running ∧ t.rridx = s.rridx + 1#5 ∧
      t.voice (voiceIdx s.rridx) =
        triggerVoice (keyParam params s.patchSel.idx note) note vel (s.voice (voiceIdx s.rridx)) :=
  ⟨_, exec_noteon_supported hrun hsel hlo hhi vel, hrun, rfl, State.setVoice_voice_same _ _ _⟩

/-- A rising edge leaves every operator out of the idle stage, its attack rate above `EA_INIT` (rules R173, R174). -/
theorem voiceTick_op_rising {v : Voice} (hgate : v.gate = true) (hold : v.gateOld = false) (m n : Mode) (i : OpIdx) :
    ((voiceTick params m n v).op.get i).stage ≠ .idle ∧
    ((voiceTick params m n v).op.get i).ea.toNat = min (params.eaInit.toNat + (v.op.get i).ar.toNat) 0xFFFFF := by
  obtain ⟨hea, hstage⟩ := egStep_attack_ea_stage (P := params) (gateOld := false) (o := v.op.get i) rfl rfl
  rw [voiceTick_op, hgate, hold]
  refine ⟨?_, hea⟩
  rw [ampStep_stage, phaseStep_stage, hstage]
  split <;> decide

/-- The voice a NOTEON takes holds the note, so the NOTEOFF of that note withdraws its request with the pedal up. -/
theorem releaseFlags_triggerVoice_gateNew {v : Voice} (hpedal : v.sustaining = false) (k : Quad KeyParams)
    (note vel : BitVec 7) : (releaseFlags note (triggerVoice k note vel v)).gateNew = false := by
  rw [releaseFlags_eq, if_pos ⟨rfl, rfl⟩]
  exact if_pos hpedal

/-- Rule R251 for a note in the key range. -/
theorem exec_noteoff_supported {s : State} (hrun : s.Running) {note : BitVec 7} (hlo : params.keyLo ≤ note.toNat)
    (hhi : note.toNat ≤ params.keyHi) : exec (.noteoff note) s = .next (s.mapVoice (releaseFlags note)) := by
  obtain ⟨hf, hr⟩ := hrun
  rw [exec_running hf hr, effect, noteoff_supported hlo hhi]

end Sys2Proof.Machine

/-! ### The statements -/

open Sys2Proof Sys2Proof.Machine

/-- Settles O9: without the reset input a step of a halted machine has nothing to do or ignores a word. -/
theorem onlyResetClearsAFault : Obligations.OnlyResetClearsAFault := by
  refine ⟨fun s rest hp => step_reset hp, fun s t h hf hne => ?_⟩
  obtain ⟨hignored, -⟩ := haltIgnoresEveryWord
  rcases hp : s.port with _ | ⟨w | _, rest⟩
  · cases (step_empty hp).symm.trans h
    exact ⟨hf, rfl⟩
  · cases (hignored s w rest hf hp).symm.trans h
    exact ⟨hf, rfl⟩
  · exact absurd hp (hne rest)

/-- Settles O43: the voice taken is at rest with its gate requested; the first tick latches the request, which is the
rising edge of the second. -/
theorem noteonActsTwoTicksLater : Obligations.NoteonActsTwoTicksLater := by
  intro s note vel hrun hsel hlo hhi
  obtain ⟨t, hon, ⟨hf, hr⟩, -, hvoice⟩ := exists_exec_noteon hrun hsel hlo hhi vel
  refine ⟨t, tick params t, tick params (tick params t), hon, exec_running hf hr .tick,
    exec_running (s := tick params t) hf hr .tick, ?_⟩
  rw [tick_voice params (tick params t), tick_voice params t, hvoice]
  set v := triggerVoice (keyParam params s.patchSel.idx note) note vel (s.voice (voiceIdx s.rridx))
  have hrest : v.AtRest := .triggerVoice _ note vel _
  have hgate : (voiceTick params t.mode1 t.mode2 v).gate = true := voiceTick_gate _ _ _ _
  have hold : (voiceTick params t.mode1 t.mode2 v).gateOld = false := voiceTick_gateOld _ _ _ _
  refine ⟨hrest.voiceSample_eq_zero _ _, hgate, hold, fun i => ?_, fun i => ?_⟩
  · obtain ⟨hidle, hea, -⟩ := hrest.op_after_voiceTick t.mode1 t.mode2 i
    exact ⟨hidle, hea⟩
  · simpa [v] using voiceTick_op_rising hgate hold (tick params t).mode1 (tick params t).mode2 i

/-- Settles O44: the NOTEOFF withdraws the request of a voice that is still at rest, and every tick keeps it so. -/
theorem triggerAndReleaseStartsNoAttack : Obligations.TriggerAndReleaseStartsNoAttack := by
  intro s note vel hrun hsel hlo hhi hpedal
  obtain ⟨t, hon, hrun', hrridx, hvoice⟩ := exists_exec_noteon hrun hsel hlo hhi vel
  refine ⟨t, t.mapVoice (releaseFlags note), hon, exec_noteoff_supported hrun' hlo hhi, hrridx, ?_⟩
  rintro mode1 mode2 n x rfl
  rw [State.mapVoice_voice, hvoice]
  have hrest := (Voice.AtRest.triggerVoice (keyParam params s.patchSel.idx note) note vel
    (s.voice (voiceIdx s.rridx))).releaseFlags note
  obtain ⟨hrest', hnew⟩ :=
    hrest.iterate_voiceTick (releaseFlags_triggerVoice_gateNew hpedal _ note vel) mode1 mode2 n
  exact ⟨hnew, hrest'.gate, hrest'.gateOld, fun i => ⟨hrest'.idle i, (hrest'.zero i).1⟩,
    hrest'.voiceSample_eq_zero mode1 mode2⟩
end
